-- ==== Sys2Proof/Word.lean ====
section
/-! DEFINITION. The number types of the RC2416 (spec/00_scope.md, "Figures shared by all chapters"):
bytes, station numbers, storage blocks and page slots. -/

namespace Sys2Proof

/-- One byte of a frame, a flash header, a payload or a host transaction. -/
abbrev Byte := BitVec 8

/-- A station number, 0 to 15 (R1). -/
abbrev Station := Fin 16

/-- A block of the flash array, 0 to 511; block 0 is the configuration block (R113). -/
abbrev Block := Fin 512

/-- A page slot of a block, 0 to 31 (R113). -/
abbrev Slot := Fin 32

/-- All station numbers in ascending order. -/
def stations : List Station := [0, 1, 2, 3, 4, 5, 6, 7, 8, 9, 10, 11, 12, 13, 14, 15]

end Sys2Proof
end

