-- ==== Sys2Proof/Syntax.lean ====
section
/-! DEFINITION. The commands of the RC2416: one constructor for each row of spec/opcode_table.json, with the operands
that the row's rule names. Widths of pulses are measured in whole sixteenths of the line unit U (R75). -/

namespace Sys2Proof

/-- A page key (R1). -/
structure Key where
  origin : Station
  seq    : Nat
  deriving DecidableEq, Repr

/-- The ascending order of keys: by origin, then by seq (section 1.1). -/
def Key.le (a b : Key) : Bool :=
  a.origin.val < b.origin.val || (a.origin.val == b.origin.val && a.seq ≤ b.seq)

/-- What a Transmit Queue entry is about: its kind with its key or target (R103). -/
inductive TxTarget where
  | beacon
  | page   (k : Key)
  | repair (k : Key)
  | want   (origin : Station) (first count : Nat)
  deriving DecidableEq, Repr

/-- What made a symbol error in RECEIVING (R80): a low of a class other than ZERO, ONE and BREAK, with its width, or a
short gap, with its width. -/
inductive SymbolFault where
  | low      (width : Nat)
  | shortGap (width : Nat)
  deriving DecidableEq, Repr

/-- The commands. The number of bit errors a read met is an operand of its end (`errors`: 0 is CLEAN, 1 to 4 is
CORRECTED(n), more is UNCORRECTABLE, R123); whether a program or erase verified is an operand of its end (`ok`)
(DESIGN CHOICE, notes/assumptions/15.md). -/
inductive Instr where
  /-- POWER_ON (R150). -/
  | powerOn
  /-- RESET_LOW (R150). -/
  | resetLow
  /-- RESET_RISE (R150). -/
  | resetRise
  /-- STOPPING_END (R151). -/
  | stoppingEnd
  /-- CONFIGURATION_READ_END (R152). -/
  | configurationReadEnd (errors : Nat)
  /-- CONFIGURATION_WRITE_END (R178). -/
  | configurationWriteEnd (ok : Bool)
  /-- SCAN_HEADER_READ_END (R155): `disturbed` when bit errors leave the check of the header or tag unmet. -/
  | scanHeaderReadEnd (disturbed : Bool)
  /-- SCAN_MARK_READ_END (R157). -/
  | scanMarkReadEnd (errors : Nat)
  /-- SELECT_FALL_CMD_DISCARD (R165): the bytes received before select rose. -/
  | selectFallCmdDiscard (bytes : List Byte)
  /-- SELECT_RISE (R179). -/
  | selectRise
  /-- RESPONSE_CLOCKED_OUT (R165). -/
  | responseClockedOut
  /-- BAD_CMD (R166): the command byte. -/
  | badCmd (code : Byte)
  /-- STATUS (R168). -/
  | status
  /-- NOTICE (R172). -/
  | notice
  /-- COUNTS (R170). -/
  | counts
  /-- PEER (R169): the argument byte. -/
  | peer (n : Byte)
  /-- ORIGIN (R169): the argument byte. -/
  | origin (n : Byte)
  /-- PUBLISH (R44, R173): the length field and the payload bytes. -/
  | publish (length : BitVec 16) (payload : List Byte)
  /-- READ (R174): the origin byte and the seq. -/
  | read (o : Byte) (seq : BitVec 24)
  /-- TAKE (R176). -/
  | take
  /-- RETIRE (R135, R177): the requested floor. -/
  | retire (floor : BitVec 24)
  /-- CONFIGURE (R178): record bytes 0 to 6. -/
  | configure (record : List Byte)
  /-- RESTART (R179). -/
  | restart
  /-- FRAME_END_GAP (R100). -/
  | frameEndGap
  /-- SYMBOL_ERROR (R80). -/
  | symbolError (fault : SymbolFault)
  /-- STRAY_LOW (R81): the width of the low. -/
  | strayLow (width : Nat)
  /-- FRAME_START (R78): the high before the START-class low, and the low's width. -/
  | frameStart (high width : Nat)
  /-- RECOVERY_PERIOD_END (R81). -/
  | recoveryPeriodEnd
  /-- BREAK (R93). -/
  | lineBreak
  /-- LINE_STUCK (R94). -/
  | lineStuck
  /-- LINE_STUCK_CLEAR (R94). -/
  | lineStuckClear
  /-- START_MOMENT (R84): how long before it the line fell, 0 when the line is high. -/
  | startMoment (fallen : Nat)
  /-- ARBITRATION_LOSS (R85). -/
  | arbitrationLoss
  /-- COLLISION (R86). -/
  | collision
  /-- SENT_TO_END (R110). -/
  | sentToEnd
  /-- ACK_PULSE (R89). -/
  | ackPulse
  /-- ACK_PULSE_END (R89). -/
  | ackPulseEnd
  /-- ACK_WINDOW_END (R90). -/
  | ackWindowEnd
  /-- BREAK_END (R92). -/
  | breakEnd
  /-- EARLIEST_START_PASSES (R107): the queued entry concerned. -/
  | earliestStartPasses (target : TxTarget)
  /-- SILENCE_TIMEOUT (R32): the peer concerned. -/
  | silenceTimeout (p : Station)
  /-- BEACON_TIMER_EXPIRY (R38). -/
  | beaconTimerExpiry
  /-- LISTENING_END (R158). -/
  | listeningEnd
  /-- JOIN_LIMIT (R160). -/
  | joinLimit
  /-- WANT_DEADLINE (R62): a key whose deadline it is. -/
  | wantDeadline (k : Key)
  /-- STALLED_REASK_DUE (R63): a key whose next-ask time it is. -/
  | stalledReaskDue (k : Key)
  /-- FETCH_DEADLINE (R70). -/
  | fetchDeadline
  /-- PAGE_READ_END (R123). -/
  | pageReadEnd (errors : Nat)
  /-- PAGE_PROGRAM_END (R124). -/
  | pageProgramEnd (ok : Bool)
  /-- TAG_PROGRAM_END (R131). -/
  | tagProgramEnd (ok : Bool)
  /-- ERASE_END (R126). -/
  | eraseEnd (ok : Bool)
  /-- DATA_BIT (R80): the gap before the low, and the low's width. -/
  | dataBit (gap width : Nat)
  /-- DRIVE_NEXT_SYMBOL (R82). -/
  | driveNextSymbol
  /-- ACK_SLOT_SAMPLING (R90): the slot, and the longest uninterrupted low inside its sampling interval. -/
  | ackSlotSampling (slot low : Nat)
  deriving DecidableEq, Repr

end Sys2Proof
end

