-- ==== Sys2Proof/Config.lean ====
section
/-! DEFINITION. The values the manual leaves open (DESIGN CHOICE, notes/assumptions/6.md). Each is opaque: it has no body, so no
proof can rest on what it is. The argument is the model's own count of erases that did not end OK. -/

namespace Sys2Proof.Config

/-- After an erase cut short by a cold start: the slots that read INVALID, but for the two below; the others are blank
(R134). -/
opaque cutEraseInvalid : Nat → BitVec 32

/-- After an erase cut short by a cold start: a slot that reads INVALID, since some do (R134, R150). -/
opaque cutEraseInvalidSlot : Nat → Fin 32

/-- After an erase cut short by a cold start: how many slots further, less one, in cyclic order a slot is blank, since
others are (R134). -/
opaque cutEraseBlankStep : Nat → Fin 31

/-- After an erase cut short by a cold start: whether the tag reads INVALID; otherwise it is blank (R134). -/
opaque cutEraseTagInvalid : Nat → Bool

/-- After an erase that ended FAIL: the slots left as they were; the others are blank or INVALID (R126). -/
opaque failedEraseKept : Nat → BitVec 32

/-- After an erase that ended FAIL: among the slots not left as they were, those that read INVALID (R126). -/
opaque failedEraseInvalid : Nat → BitVec 32

/-- After an erase that ended FAIL: whether the tag is left as it was; otherwise it is blank (R126). -/
opaque failedEraseTagKept : Nat → Bool

end Sys2Proof.Config
end

