-- ==== Sys2Proof/Machine/State.lean ====
section
/-! DEFINITION. The state of one RC2416 (INVENTORY.md, "State"): every structure its eight blocks hold, the contents of
its flash, its pins, and the queue of commands that are waiting. Times are counted in sixteenths of a microsecond
(DESIGN CHOICE, notes/assumptions/2.md). -/

namespace Sys2Proof.Machine

/-! ## Page Directory (chapter 1) -/

/-- A role (R3, R16, R114). An origin record holds SELF, DESIGNATED, STANDIN or NONE, an entry SELF, DESIGNATED or
STANDIN, a page header any but NONE. -/
inductive Role where
  | none | self | designated | standin | mark
  deriving DecidableEq, Repr

/-- An origin record (section 1.3): role, F, K, H, P, and the stand-in rank while the role is STANDIN (R13). -/
structure OriginRec where
  role      : Role
  rank      : Nat
  floor     : Nat
  known     : Nat
  held      : Nat
  published : Nat
  deriving DecidableEq, Repr

/-- The values of an origin record after a start (R25). -/
def OriginRec.start : OriginRec := ⟨.none, 0, 1, 0, 0, 0⟩

/-- A stand-in record (R15): bit n of the mask stands for station n. -/
structure StandInRec where
  mask    : BitVec 16
  fromSeq : Nat
  toSeq   : Nat
  deriving DecidableEq, Repr

/-- The empty stand-in record (R15). -/
def StandInRec.empty : StandInRec := ⟨0, 0, 0⟩

/-- A place in the flash array: storage block and page slot (R16). -/
structure Loc where
  block : Block
  slot  : Slot
  deriving DecidableEq, Repr

/-- The buffer a LANDING entry refers to (R16). -/
inductive BufRef where
  | landing (i : Fin 4)
  | publish
  deriving DecidableEq, Repr

/-- Where an entry's page lies: LANDING in a buffer, or LIVE in a slot with its write stamp (R16). -/
inductive Place where
  | landing (buffer : BufRef)
  | live (loc : Loc) (stamp : Nat)
  deriving DecidableEq, Repr

/-- A directory entry (R16). -/
structure Entry where
  key    : Key
  role   : Role
  length : Nat
  place  : Place
  deriving DecidableEq, Repr

/-- The mark entry (R20). -/
structure MarkEntry where
  loc   : Loc
  stamp : Nat
  deriving DecidableEq, Repr

/-- The Page Directory: origin records, designated sets in rank order (empty outside the roster, R2), stand-in records,
entries in ascending key order, and the mark entry. -/
structure Directory where
  origins    : Vector OriginRec 16
  designated : Vector (List Station) 16
  standins   : Vector StandInRec 16
  entries    : List Entry
  mark       : Option MarkEntry
  deriving DecidableEq, Repr

/-- The directory after a start (R25). -/
def Directory.start : Directory :=
  { origins := .replicate 16 .start, designated := .replicate 16 [], standins := .replicate 16 .empty
    entries := [], mark := none }

/-! ## Membership table (chapter 2) -/

/-- The state of a membership entry (R26). -/
inductive PeerState where
  | absent | live | silent | excluded
  deriving DecidableEq, Repr

/-- What a beacon carries, as stored from a matching beacon (R26, R34). -/
structure BeaconRec where
  withdrawn : Bool
  full      : Bool
  joining   : Bool
  published : Nat
  floor     : Nat
  items     : List (Station × Nat)
  deriving DecidableEq, Repr

/-- A membership entry (R26). -/
structure PeerEntry where
  state     : PeerState
  lastHeard : Option Nat
  beacon    : Option BeaconRec
  deriving DecidableEq, Repr

/-- A membership entry after a start (R26, R42). -/
def PeerEntry.start : PeerEntry := ⟨.absent, none, none⟩

/-- The membership table, with the next expiry of the beacon timer while it runs (R38). -/
structure Members where
  peers       : Vector PeerEntry 16
  beaconTimer : Option Nat
  deriving DecidableEq, Repr

/-- The membership table after a start (R42). -/
def Members.start : Members := ⟨.replicate 16 .start, none⟩

/-! ## Replication engine (chapter 3) -/

/-- The phase of the publish (R43). -/
inductive PublishPhase where
  | idle | programming | sending | awaitAcks | done
  deriving DecidableEq, Repr

/-- How a publish ended (R43). -/
inductive PublishOutcome where
  | secured | under | retired | failed
  deriving DecidableEq, Repr

/-- The publish state and the Publish Buffer (R43). `overtaken` keeps the outcome that a cause of cancellation gives
until the transmission or window in progress has ended (R50, R51, R110); `requested` is the publish program request
while the arbiter has not granted it (R119). -/
structure Publish where
  phase     : PublishPhase
  seq       : Nat
  attempt   : Nat
  best      : Nat
  outcome   : Option PublishOutcome
  overtaken : Option PublishOutcome
  requested : Bool
  buffer    : Option (List Byte)
  deriving DecidableEq, Repr

/-- The publish state after a start (R43). -/
def Publish.start : Publish := ⟨.idle, 0, 0, 0, none, none, false, none⟩

/-- What a landing buffer holds (R54). -/
structure LandingPage where
  key     : Key
  role    : Role
  payload : List Byte
  deriving DecidableEq, Repr

/-- The Landing Queue (R56): the four buffers, the buffers of the queued pages from the head, the landing program
request while ungranted (R57), and the buffer whose granted program has not ended or is the pending page (R58). -/
structure Landing where
  buffers   : Vector (Option LandingPage) 4
  queue     : List (Fin 4)
  requested : Bool
  granted   : Option (Fin 4)
  deriving DecidableEq, Repr

/-- The Landing Queue after a start (R56). -/
def Landing.start : Landing := ⟨.replicate 4 none, [], false, none⟩

/-- The state of a Want List entry (R59). -/
inductive WantState where
  | idle | asked | stalled
  deriving DecidableEq, Repr

/-- A Want List entry (R59). -/
structure Want where
  key   : Key
  state : WantState
  asks  : Nat
  next  : Option Nat
  deriving DecidableEq, Repr

/-- A fetch in phase ASKING (R69). -/
structure Fetch where
  key      : Key
  ask      : Nat
  deadline : Option Nat
  held     : Bool
  deriving DecidableEq, Repr

/-- The replication engine. The fetch is `none` in phase IDLE; its phase DONE lasts no longer than the happening that
ends it (R71). -/
structure Replication where
  publish : Publish
  landing : Landing
  wants   : List Want
  fetch   : Option Fetch
  deriving DecidableEq, Repr

/-- The replication engine after a start (R73). -/
def Replication.start : Replication := ⟨.start, .start, [], none⟩

/-! ## Line interface (chapter 4) -/

/-- The receiver state (R74). -/
inductive Receiver where
  | idle | receiving | recovering | window
  deriving DecidableEq, Repr

/-- The transmitter state (R74). -/
inductive Transmitter where
  | quiet | starting | arbitrating | sending | acking | breaking
  deriving DecidableEq, Repr

/-- An ack window in progress (R74, R88): the end-gap start it is timed from, whether this station is the sender, and
the slots found acked (bit j stands for slot j). -/
structure Window where
  start : Nat
  mine  : Bool
  acked : BitVec 8
  deriving DecidableEq, Repr

/-- The eight line counters (R95). -/
structure Counters where
  symbol      : Nat
  crc         : Nat
  truncated   : Nat
  format      : Nat
  foreign     : Nat
  arbLoss     : Nat
  collision   : Nat
  lineBreak   : Nat
  deriving DecidableEq, Repr

/-- All counters 0. -/
def Counters.zero : Counters := ⟨0, 0, 0, 0, 0, 0, 0, 0⟩

/-- The line interface (R74). Thresholds and the recovery period are in U. `high` and `since` are the level that the
receiver has measured and the time it began, the station's own pulses measured like any other (R75); `idleRef` is the last
rise, or the end of an ack window that is over (`State.idleReference`, R79). `fell` says that the line is low by a fall that is not measured yet, `high` and `since` being still
those of the high before it. `driven` is the LINE output held low by this station, since `txSince`. -/
structure Line where
  high       : Bool
  since      : Nat
  fell       : Bool
  receiver   : Receiver
  idleRef    : Nat
  bitCount   : Option Nat
  expected   : Option Nat
  tx         : Transmitter
  driven     : Bool
  txSince    : Nat
  threshold  : Nat
  recovery   : Nat
  window     : Option Window
  pendingAck : Option Nat
  stuck      : Bool
  counters   : Counters
  deriving DecidableEq, Repr

/-- The line interface after a start, before a configuration record gives R (R74; DESIGN CHOICE,
notes/assumptions/14.md). -/
def Line.start : Line :=
  { high := true, since := 0, fell := false, receiver := .recovering, idleRef := 0, bitCount := none, expected := none
    tx := .quiet, driven := false, txSince := 0, threshold := 6, recovery := 6, window := none
    pendingAck := none, stuck := false, counters := .zero }

/-! ## Frame engine (chapter 5) -/

/-- A Transmit Queue entry (R103). `byWants` and `byFetch` are the owners of a WANT. -/
structure TxEntry where
  target    : TxTarget
  earliest  : Nat
  inserted  : Nat
  staged    : Bool
  byWants   : Bool
  byFetch   : Bool
  cancelled : Bool
  renew     : Bool
  deriving DecidableEq, Repr

/-- The transmission in progress (R107, R108): the entry it sends, the bits not yet driven, how many have been driven,
and the bit driven last (`none` while the START is driven). -/
structure Sending where
  target : TxTarget
  rest   : List Bool
  sent   : Nat
  last   : Option Bool
  deriving DecidableEq, Repr

/-- Where the Repair Staging Buffer stands for the entry it is held for (R109). -/
inductive StagingPhase where
  | requested | reading | staged
  deriving DecidableEq, Repr

/-- The Repair Staging Buffer while held (R109); `dropped` when its entry left while the read was running. -/
structure Staging where
  key     : Key
  phase   : StagingPhase
  payload : List Byte
  dropped : Bool
  deriving DecidableEq, Repr

/-- The receive assembly buffer (R99): the header bits read as a number, the body byte being completed, the stored body
bytes, the check register and the received check. -/
structure Assembly where
  header : Nat
  octet  : Nat
  body   : List Byte
  crc    : BitVec 16
  check  : Nat
  deriving DecidableEq, Repr

/-- The empty receive assembly buffer, its check register at FFFFh (R98, R99). -/
def Assembly.empty : Assembly := ⟨0, 0, [], 0xFFFF, 0⟩

/-- The six states of the frame engine (R102). -/
inductive EngineState where
  | idle | waiting | contending | sending | ackWindow | receiving
  deriving DecidableEq, Repr

/-- The frame engine. Its own state follows from the queue, the transmitter and the receiver (R102): it is
`State.engineState`. -/
structure Engine where
  queue    : List TxEntry
  sending  : Option Sending
  staging  : Option Staging
  assembly : Assembly
  deriving DecidableEq, Repr

/-- The frame engine after a start (R99, R102, R103, R109). -/
def Engine.start : Engine := ⟨[], none, none, .empty⟩

/-! ## Array manager (chapters 6 to 8) -/

/-- What has been written to a programmed slot or tag. `torn` reads INVALID, or UNCORRECTABLE in block 0: a program or
configuration write that is running, was cut short, or (of a tag or record) failed (R127, R134). -/
inductive FlashCell where
  | torn
  | written (head : List Byte) (data : List Byte)
  deriving DecidableEq, Repr

/-- Flash contents by number, strictly rising; what is not listed is blank. -/
abbrev Store := List (Nat × FlashCell)

/-- The flash array (R113): page slots by 32 × block + slot, those of block 0 holding configuration records, and block
tags by block. It keeps its contents through a start. -/
structure Flash where
  slots : Store
  tags  : Store
  deriving DecidableEq, Repr

/-- The state of a storage block (R115); `opened` is OPEN. -/
inductive BlockState where
  | free | opened | closed | victim | bad
  deriving DecidableEq, Repr

/-- The record of a storage block (R115). -/
structure BlockRec where
  state   : BlockState
  used    : Nat
  live    : Nat
  weak    : Bool
  failing : Bool
  deriving DecidableEq, Repr

/-- A storage block's record after a start, until the scan has classified it (R115). -/
def BlockRec.start : BlockRec := ⟨.closed, 32, 0, false, false⟩

/-- Why a STORAGE notice is posted (section 11.4); a tag carries one of the first three (R114). -/
inductive StorageReason where
  | program | erase | weak | noFreeBlock | tableFull | stamp | configWrite
  deriving DecidableEq, Repr

/-- A page as a program writes it: the header fields but the stamp, and the payload (R114). -/
structure PageImage where
  tag     : Byte
  origin  : Station
  seq     : Nat
  role    : Role
  payload : List Byte
  deriving DecidableEq, Repr

/-- Whose page a program writes (R119, R124): the publish's, a landing buffer's, the retirement's mark, a relocation
copy of an entry or of the mark entry from its old slot, or a fresh mark for an unreadable one (R139). -/
inductive ProgOwner where
  | publish (k : Key)
  | landing (k : Key) (buffer : Fin 4)
  | mark
  | copy (k : Key) (old : Loc)
  | markCopy (old : Loc)
  | freshMark (old : Loc)
  deriving DecidableEq, Repr

/-- A page to be programmed. -/
structure ProgItem where
  owner : ProgOwner
  image : PageImage
  deriving DecidableEq, Repr

/-- The sources of the arbiter (R119). -/
inductive Source where
  | failure | reclaim | staging | host | publish | landing | mark
  deriving DecidableEq, Repr

/-- The entry a page read names (R123). -/
inductive ReadTarget where
  | page (k : Key)
  | mark
  deriving DecidableEq, Repr

/-- The array's operations (section 6.5), those of the scan told apart (R154, R157). -/
inductive ArrayOp where
  | read (source : Source) (target : ReadTarget) (loc : Loc)
  | program (source : Source) (item : ProgItem) (loc : Loc) (stamp : Nat)
  | tag (source : Source) (block : Block) (reason : StorageReason) (stamp : Nat)
  | erase (block : Block)
  | scanTag (block : Block)
  | scanSlot (loc : Loc)
  | scanMark (loc : Loc) (stamp : Nat)
  | configRead
  | configWrite (slot : Slot) (record : List Byte)
  deriving DecidableEq, Repr

/-- The array operation in progress and when it was granted. -/
structure Running where
  op      : ArrayOp
  started : Nat
  deriving DecidableEq, Repr

/-- Failure handling (R128, R129): the failing list, the pending page with the source whose program failed first, and
the relocation buffer. -/
structure Failure where
  failing : List Block
  page    : Option (ProgItem × Source)
  buffer  : Option ProgItem
  deriving DecidableEq, Repr

/-- The step of reclaim (R141). -/
inductive ReclaimStep where
  | search
  | relocate
  | erase
  | retire (reason : StorageReason)
  deriving DecidableEq, Repr

/-- Reclaim (R141). -/
structure Reclaim where
  victim   : Option Block
  step     : ReclaimStep
  nextSlot : Nat
  buffer   : Option ProgItem
  mark     : Bool
  deriving DecidableEq, Repr

/-- What the scan keeps between its header reads (R155 to R157): the bound on mark stamps in a further header pass, the
tag and slots seen of the block being read, the best candidate for the OPEN block, the highest stamp, the newest mark,
and the lowest BAD block left without a record. -/
structure Scan where
  below      : Option Nat
  tagInvalid : Bool
  highest    : Option Nat
  blockStamp : Option Nat
  openBest   : Option (Block × Nat)
  maxStamp   : Nat
  mark       : Option (Loc × Nat)
  unrecorded : Option Block
  deriving DecidableEq, Repr

/-- The scan before its first header read. -/
def Scan.start : Scan := ⟨none, false, none, none, none, 0, none, none⟩

/-- The array manager. Record 0 of `blocks` stands for no block (R113). `erasesLost` counts the erases that did not end
OK: the model's own counter, the argument of the open values of Config. -/
structure ArrayManager where
  flash      : Flash
  blocks     : Vector BlockRec 512
  freeList   : List Block
  badTable   : List Block
  nextStamp  : Nat
  running    : Option Running
  failure    : Failure
  reclaim    : Reclaim
  full       : Bool
  exhausted  : Bool
  scan       : Option Scan
  erasesLost : Nat
  deriving DecidableEq, Repr

/-- The array manager after a start, over the flash as it is (R115, R117, R118, R133, R134, R141, R146). -/
def ArrayManager.start (flash : Flash) (erasesLost : Nat) : ArrayManager :=
  { flash := flash, blocks := .replicate 512 .start, freeList := [], badTable := [], nextStamp := 1, running := none
    failure := ⟨[], none, none⟩, reclaim := ⟨none, .search, 0, none, false⟩, full := false, exhausted := false
    scan := none, erasesLost := erasesLost }

/-- The retirement (R135): the requested floor while MARKING, and its mark program request while ungranted. -/
structure Retirement where
  marking   : Option Nat
  requested : Bool
  deriving DecidableEq, Repr

/-- The retirement after a start (R135). -/
def Retirement.start : Retirement := ⟨none, false⟩

/-! ## Host port (chapter 9) -/

/-- The station states (R149). -/
inductive StationState where
  | unconfigured | configFault | scanning | listening | joining | active | mute | withdrawn
  deriving DecidableEq, Repr

/-- How a read ended (R164). -/
inductive ReadStatus where
  | ok | retired | unreachable
  deriving DecidableEq, Repr

/-- The notices (R171), each with what it carries. -/
inductive Notice where
  | published (seq best : Nat) (outcome : PublishOutcome)
  | readDone (k : Key) (status : ReadStatus)
  | retiredDone (floor : Nat) (done : Bool)
  | peerChange (p : Station) (state : PeerState) (available : Bool)
  | configMismatch (p : Station) (factor roster : Bool)
  | duplicateId (kind : Nat)
  | pageLost (k : Key) (role : Role)
  | wantStalled (k : Key)
  | storage (reason : StorageReason) (block : Block) (recorded : Bool)
  | fullChange (isSet : Bool)
  | lineFault (stuck : Bool)
  | state (new : StationState)
  | joinIncomplete (holdings frontier : Bool) (wants : Nat)
  deriving DecidableEq, Repr

/-- The read state (R164). -/
inductive ReadState where
  | idle | reading | fetching | held
  deriving DecidableEq, Repr

/-- A result in the Read Buffer (R164). -/
structure ReadResult where
  status  : ReadStatus
  key     : Key
  payload : List Byte
  deriving DecidableEq, Repr

/-- The response buffer (R164): the command answered, the bytes to be clocked out, and how many have been. -/
structure Response where
  code    : Byte
  bytes   : List Byte
  clocked : Nat
  deriving DecidableEq, Repr

/-- The host port (R164). `selected` says that the transaction of a select period is open; `taken` says whether the
command of the open select period has been taken; `readRequested` is the host read request while ungranted; `dropped`
says that a notice has been dropped since the last STATUS was taken (R168); `attn` is the ATTN pin driven low. -/
structure Port where
  selected      : Bool
  decoder       : List Byte
  taken         : Bool
  response      : Option Response
  read          : ReadState
  readKey       : Option Key
  readRequested : Bool
  readBuffer    : Option ReadResult
  notices       : List Notice
  overflow      : Bool
  dropped       : Bool
  attn          : Bool
  deriving DecidableEq, Repr

/-- The host port after a start (R164). -/
def Port.start : Port :=
  { selected := false, decoder := [], taken := false, response := none, read := .idle, readKey := none
    readRequested := false, readBuffer := none, notices := [], overflow := false, dropped := false, attn := false }

/-! ## Station control (chapter 8) -/

/-- The values of a configuration record (R152, section 11.3). -/
structure ConfigRecord where
  tag       : Byte
  number    : Station
  roster    : BitVec 16
  factor    : Nat
  unitCode  : Nat
  intervalCode : Nat
  deriving DecidableEq, Repr

/-- All values 0, as STATUS shows them without a configuration (R168). -/
def ConfigRecord.zero : ConfigRecord := ⟨0, 0, 0, 0, 0, 0⟩

/-- Station control: the station state and when it was entered, whether the station is stopping for a warm start (R151),
and the configuration taken at SCANNING (R152). -/
structure Control where
  state    : StationState
  since    : Nat
  stopping : Bool
  config   : Option ConfigRecord
  deriving DecidableEq, Repr

/-- Station control after a start: UNCONFIGURED, as while the configuration read runs (R152; DESIGN CHOICE,
notes/assumptions/12.md). -/
def Control.start : Control := ⟨.unconfigured, 0, false, none⟩

/-! ## The whole station -/

/-- The state of the station. `pending` is the queue of commands that wait, `now` the model's clock, and `resetLow` and
`selLow` the RESET and SEL pins held low. -/
structure State where
  pending  : List Instr
  now      : Nat
  resetLow : Bool
  selLow   : Bool
  ctl      : Control
  members  : Members
  dir      : Directory
  repl     : Replication
  line     : Line
  engine   : Engine
  array    : ArrayManager
  retire   : Retirement
  port     : Port
  deriving DecidableEq, Repr

/-- A fault of the machine. There is none: the manual describes no happening that stops the part for good. -/
inductive Fault where
  deriving DecidableEq, Repr

/-- A refusal of the model. -/
inductive Refusal where
  /-- Raised by an arm of `exec` whose command has no meaning yet; safe. No arm raises it. -/
  | notModelled (mnemonic : String)
  deriving DecidableEq, Repr

/-- The station right after a cold start, RESET still low (R150; DESIGN CHOICE, notes/assumptions/12.md): every volatile
structure at its start value, those that no rule names as notes/assumptions/14.md says, and the flash blank (DESIGN CHOICE,
notes/assumptions/5.md). -/
def State.reset : State :=
  { pending := [], now := 0, resetLow := true, selLow := false, ctl := .start, members := .start, dir := .start
    repl := .start, line := .start, engine := .start, array := .start ⟨[], []⟩ 0, retire := .start, port := .start }

end Sys2Proof.Machine
end

