-- ==== Sys2Proof/Machine/Operands.lean ====
section
/-! DEFINITION. The outward forms and measures of chapters 4, 5 and 11: units of time, classes of pulses, the check of
R98, and the byte layouts of frames, flash headers, tags, records and host arguments. -/

namespace Sys2Proof.Machine

/-! ## Numbers and time -/

/-- The greatest sequence number (R1). -/
def seqMax : Nat := 16777215

/-- The greatest write stamp, FFFFFFFFh (R118). -/
def stampMax : Nat := 4294967295

/-- A duration in microseconds, in ticks of the model's clock (DESIGN CHOICE, notes/assumptions/2.md). -/
def us (n : Nat) : Nat := 16 * n

/-- A sixteenth of the line unit U, which is 1, 2, 4 or 8 µs (section 11.3), in ticks. -/
def ConfigRecord.sixteenth (c : ConfigRecord) : Nat := 2 ^ c.unitCode

/-- The line unit U in ticks. -/
def ConfigRecord.unit (c : ConfigRecord) : Nat := 16 * c.sixteenth

/-- The beacon interval B, 100 ms × (code + 1) (section 11.3), in ticks. -/
def ConfigRecord.interval (c : ConfigRecord) : Nat := us 100000 * (c.intervalCode + 1)

/-- The raised threshold and recovery period, 6 U + 8 U × (R − 1), in U (R81, R83). -/
def raised (factor : Nat) : Nat := 6 + 8 * (factor - 1)

/-- The end of the ack window from its end-gap start, 3 U + 8 U × (R − 1), in U (R88). -/
def windowEnd (factor : Nat) : Nat := 3 + 8 * (factor - 1)

/-- The start of ack slot j from the end-gap start, 3 U + 4 U × (j − 1), in U (R88). -/
def slotStart (j : Nat) : Nat := 3 + 4 * (j - 1)

/-! ## Pulses -/

/-- The classes of lows (R76). -/
inductive LowClass where
  | glitch | runt | zero | one | invalid | start | lineBreak
  deriving DecidableEq, Repr

/-- The class of a low of so many sixteenths of U (R76). -/
def classifyLow (w : Nat) : LowClass :=
  if w < 4 then .glitch else if w < 8 then .runt else if w < 24 then .zero else if w < 40 then .one
  else if w < 56 then .invalid else if w < 72 then .start else if w < 128 then .invalid else .lineBreak

/-- The bit a low adds to a frame, if its class is ZERO or ONE (R80). -/
def lowBit? (w : Nat) : Option Bool :=
  match classifyLow w with
  | .zero => some false
  | .one => some true
  | _ => none

/-- A high that separates two symbols, 8/16 U to below 40/16 U (R77). -/
def isGap (w : Nat) : Bool := 8 ≤ w && w < 40

/-- What a symbol error in RECEIVING may come from (R80): a runt, an invalid low, a START, or a short gap of 4/16 U to
below 8/16 U (R77). -/
def isSymbolError : SymbolFault → Bool
  | .low w => classifyLow w == .runt || classifyLow w == .invalid || classifyLow w == .start
  | .shortGap w => 4 ≤ w && w < 8

/-- A low that is stray in IDLE: confirmed, and neither START nor BREAK (R81). -/
def isStray (w : Nat) : Bool :=
  classifyLow w == .runt || classifyLow w == .zero || classifyLow w == .one || classifyLow w == .invalid

/-! ## Bits, bytes and the check -/

/-- The low `w` bits of a number, most significant first. -/
def bitsOf : Nat → Nat → List Bool
  | 0, _ => []
  | w + 1, n => n.testBit w :: bitsOf w n

/-- Take one more bit into a number read most significant bit first. -/
def shiftIn (n : Nat) (b : Bool) : Nat := 2 * n + b.toNat

/-- The bits of a list of bytes, in transmission order. -/
def bitsOfBytes (bs : List Byte) : List Bool := bs.flatMap fun b => bitsOf 8 b.toNat

/-- One step of the check register (R98). -/
def crcStep (r : BitVec 16) (b : Bool) : BitVec 16 :=
  if r.msb != b then (r <<< 1) ^^^ 0x1021#16 else r <<< 1

/-- The check over covered bits, from FFFFh (R98). -/
def crcOf (bits : List Bool) : BitVec 16 := bits.foldl crcStep 0xFFFF#16

/-- A byte from a number. -/
def byte (n : Nat) : Byte := BitVec.ofNat 8 n

/-- A number in two bytes, most significant first. -/
def bytes2 (n : Nat) : List Byte := [byte (n / 256), byte n]

/-- A number in three bytes, most significant first: a seq or a floor (chapter 11). -/
def bytes3 (n : Nat) : List Byte := [byte (n / 65536), byte (n / 256), byte n]

/-- A number in four bytes, most significant first: a write stamp (chapter 11). -/
def bytes4 (n : Nat) : List Byte := byte (n / 16777216) :: bytes3 n

/-- The byte at a position, 0 beyond the end. -/
def byteAt (bs : List Byte) (i : Nat) : Nat := (bs.getD i 0).toNat

/-- The two-byte number at a position. -/
def word2At (bs : List Byte) (i : Nat) : Nat := 256 * byteAt bs i + byteAt bs (i + 1)

/-- The three-byte number at a position. -/
def word3At (bs : List Byte) (i : Nat) : Nat := 65536 * byteAt bs i + word2At bs (i + 1)

/-- The four-byte number at a position. -/
def word4At (bs : List Byte) (i : Nat) : Nat := 16777216 * byteAt bs i + word3At bs (i + 1)

/-- Bytes with their check appended (R180). -/
def withCheck (bs : List Byte) : List Byte := bs ++ bytes2 (crcOf (bitsOfBytes bs)).toNat

/-- Whether the check that follows the first `n` bytes is met (R180). -/
def checkMet (bs : List Byte) (n : Nat) : Bool :=
  word2At bs n == (crcOf (bitsOfBytes (bs.take n))).toNat

/-- Whether the first `n` bytes read as erased (section 11.2). -/
def allErased (bs : List Byte) (n : Nat) : Bool := (bs.take n).all (· == 0xFF#8)

/-- The station a byte names, if it is 0 to 15. -/
def station? (n : Nat) : Option Station := if h : n < 16 then some ⟨n, h⟩ else none

/-- A set of stations as roster bits (chapter 11). -/
def rosterOf (l : List Station) : BitVec 16 :=
  l.foldl (fun m p => m ||| (1#16 <<< p.val)) 0

/-- Whether a roster or mask holds a station. -/
def inMask (m : BitVec 16) (p : Station) : Bool := m.getLsbD p.val

/-- The members of a roster or mask, in ascending order. -/
def membersOf (m : BitVec 16) : List Station := stations.filter (inMask m)

/-! ## Flash layouts (section 11.2) -/

/-- The code of a role in a page header. -/
def Role.headerCode : Role → Nat
  | .none => 0
  | .self => 1
  | .designated => 2
  | .standin => 3
  | .mark => 4

/-- The role of a header code, if it is 01h to 04h (R180). -/
def roleOfCode : Nat → Option Role
  | 1 => some .self
  | 2 => some .designated
  | 3 => some .standin
  | 4 => some .mark
  | _ => none

/-- A page header as read (R114). -/
structure PageHeader where
  tag    : Byte
  origin : Station
  seq    : Nat
  role   : Role
  length : Nat
  stamp  : Nat
  deriving DecidableEq, Repr

/-- The 13 bytes of a page header, its check included. -/
def PageHeader.encode (h : PageHeader) : List Byte :=
  withCheck (h.tag :: byte h.origin.val :: bytes3 h.seq ++ byte h.role.headerCode :: byte (h.length - 1) :: bytes4 h.stamp)

/-- The header that a program writes for a page with a stamp (R124). -/
def PageImage.header (p : PageImage) (stamp : Nat) : PageHeader :=
  ⟨p.tag, p.origin, p.seq, p.role, p.payload.length, stamp⟩

/-- The outcome of a header read of a slot (R127). -/
inductive HeaderRead where
  | blank
  | valid (h : PageHeader)
  | invalid
  deriving DecidableEq, Repr

/-- The outcome for header bytes as read (R180). -/
def decodeHeader (bs : List Byte) : HeaderRead :=
  if allErased bs 13 then .blank
  else
    match checkMet bs 11, station? (byteAt bs 1), roleOfCode (byteAt bs 5) with
    | true, some o, some r => .valid ⟨bs.getD 0 0, o, word3At bs 2, r, byteAt bs 6 + 1, word4At bs 7⟩
    | _, _, _ => .invalid

/-- The code of a retirement reason in a tag or notice (section 11.4). -/
def StorageReason.code : StorageReason → Nat
  | .program => 1
  | .erase => 2
  | .weak => 3
  | .noFreeBlock => 4
  | .tableFull => 5
  | .stamp => 6
  | .configWrite => 7

/-- The retirement reason of a tag byte, if it is 01h to 03h (R180). -/
def retireReason? : Nat → Option StorageReason
  | 1 => some .program
  | 2 => some .erase
  | 3 => some .weak
  | _ => none

/-- The outcome of a header read of a tag (R127). -/
inductive TagRead where
  | blank
  | retired (reason : StorageReason) (stamp : Nat)
  | factoryBad
  | invalid
  deriving DecidableEq, Repr

/-- The 8 bytes of a RETIRED tag (section 11.2). -/
def encodeRetired (reason : StorageReason) (stamp : Nat) : List Byte :=
  withCheck (0xA5#8 :: byte reason.code :: bytes4 stamp)

/-- The outcome for tag bytes as read (R180). -/
def decodeTag (bs : List Byte) : TagRead :=
  if allErased bs 8 then .blank
  else if byteAt bs 0 = 0 then .factoryBad
  else
    match byteAt bs 0 == 0xA5 && checkMet bs 6, retireReason? (byteAt bs 1) with
    | true, some r => .retired r (word4At bs 2)
    | _, _ => .invalid

/-! ## The configuration record (section 11.3) -/

/-- The number of members of a roster. -/
def rosterSize (m : BitVec 16) : Nat := (membersOf m).length

/-- The values of record bytes 0 to 6 when they pass the tests of R181. -/
def decodeRecord (bs : List Byte) : Option ConfigRecord :=
  let roster := BitVec.ofNat 16 (word2At bs 2)
  match station? (byteAt bs 1) with
  | none => none
  | some n =>
    if inMask roster n && 1 ≤ byteAt bs 4 && byteAt bs 4 ≤ 4 && byteAt bs 4 ≤ rosterSize roster
        && byteAt bs 5 ≤ 3 && byteAt bs 6 ≤ 15 then
      some ⟨bs.getD 0 0, n, roster, byteAt bs 4, byteAt bs 5, byteAt bs 6⟩
    else none

/-- The values of a stored record when its own check is met and it passes the tests (R152, R181). -/
def checkRecord (bs : List Byte) : Option ConfigRecord :=
  if checkMet bs 7 then decodeRecord bs else none

/-! ## Frames (R96 to R100) -/

/-- The frame kinds (R97). -/
inductive FrameKind where
  | beacon | want | repair | page
  deriving DecidableEq, Repr

/-- The kind value of a frame (R97). -/
def FrameKind.value : FrameKind → Nat
  | .beacon => 1
  | .want => 2
  | .repair => 3
  | .page => 4

/-- The contention class of a kind (R97). -/
def FrameKind.cls : FrameKind → Nat
  | .beacon => 3
  | .want => 2
  | .repair => 1
  | .page => 0

/-- The kind of a kind value (R97). -/
def frameKind? : Nat → Option FrameKind
  | 1 => some .beacon
  | 2 => some .want
  | 3 => some .repair
  | 4 => some .page
  | _ => none

/-- The kind of a Transmit Queue entry. -/
def targetKind : TxTarget → FrameKind
  | .beacon => .beacon
  | .page _ => .page
  | .repair _ => .repair
  | .want _ _ _ => .want

/-- The 28 header bits after the START (R96). -/
def headerBits (kind : FrameKind) (sender : Station) (tag : Byte) (length : Nat) : List Bool :=
  bitsOf 2 kind.cls ++ bitsOf 4 sender.val ++ bitsOf 4 kind.value ++ bitsOf 8 tag.toNat ++ bitsOf 10 length

/-- All bits of a frame after its START: header, body and check (R96, R98). -/
def frameBits (kind : FrameKind) (sender : Station) (tag : Byte) (body : List Byte) : List Bool :=
  let covered := headerBits kind sender tag body.length ++ bitsOfBytes body
  covered ++ bitsOf 16 (crcOf covered).toNat

/-- The body of a WANT (R97). -/
def wantBody (o : Station) (first count : Nat) : List Byte := byte o.val :: bytes3 first ++ [byte count]

/-- The body of a REPAIR or PAGE (R97). -/
def pageBody (k : Key) (payload : List Byte) : List Byte :=
  byte k.origin.val :: bytes3 k.seq ++ byte (payload.length - 1) :: payload

/-- The flag byte of a beacon (section 11.1). -/
def beaconFlags (withdrawn full joining : Bool) : Nat := withdrawn.toNat + 2 * full.toNat + 4 * joining.toNat

/-- The bytes of an H list (R97). -/
def itemBytes (items : List (Station × Nat)) : List Byte := items.flatMap fun i => byte i.1.val :: bytes3 i.2

/-- The body of a BEACON (R97). -/
def beaconBody (factor : Nat) (roster : BitVec 16) (b : BeaconRec) : List Byte :=
  byte (beaconFlags b.withdrawn b.full b.joining) :: byte factor :: bytes2 roster.toNat ++ bytes3 b.published
    ++ bytes3 b.floor ++ byte b.items.length :: itemBytes b.items

/-- The class field of a received header (R96). -/
def headerClass (h : Nat) : Nat := h / 67108864 % 4

/-- The sender field of a received header. -/
def headerSender (h : Nat) : Station := Fin.ofNat 16 (h / 4194304)

/-- The kind field of a received header. -/
def headerKind (h : Nat) : Nat := h / 262144 % 16

/-- The group tag field of a received header. -/
def headerTag (h : Nat) : Byte := byte (h / 1024)

/-- The declared body length L of a received header. -/
def headerLength (h : Nat) : Nat := h % 1024

/-- The expected bit count of a frame of body length L (R80). -/
def expectedBits (length : Nat) : Nat := 44 + 8 * length

/-- The receive assembly buffer with one more bit, the (n + 1)-th of the frame (R99): header, body byte, received check,
or an extra bit. -/
def Assembly.push (a : Assembly) (n : Nat) (b : Bool) : Assembly :=
  if n < 28 then { a with header := shiftIn a.header b, crc := crcStep a.crc b }
  else if n < 28 + 8 * headerLength a.header then
    let v := shiftIn a.octet b
    if (n - 28) % 8 = 7 then
      { a with
        crc := crcStep a.crc b, octet := 0
        body := if a.body.length < 261 then a.body ++ [byte v] else a.body }
    else { a with crc := crcStep a.crc b, octet := v }
  else if n < expectedBits (headerLength a.header) then { a with check := shiftIn a.check b }
  else a

/-- A frame's bits taken into the assembly buffer one after another, the first being bit `n + 1`. -/
def Assembly.pushAll (a : Assembly) (n : Nat) : List Bool → Assembly
  | [] => a
  | b :: bs => (a.push n b).pushAll (n + 1) bs

/-- A valid frame as delivered (R101). A beacon's items still name origins by byte, any of which may lie outside the
roster (R34). -/
inductive Message where
  | beacon (sender : Station) (factor : Nat) (roster : BitVec 16) (b : BeaconRec)
  | want (sender origin : Station) (first count : Nat)
  | repair (sender : Station) (k : Key) (payload : List Byte)
  | page (sender : Station) (k : Key) (payload : List Byte)
  deriving DecidableEq, Repr

/-- The sender of a message. -/
def Message.sender : Message → Station
  | .beacon p _ _ _ => p
  | .want p _ _ _ => p
  | .repair p _ _ => p
  | .page p _ _ => p

/-- The kind of a message. -/
def Message.kind : Message → FrameKind
  | .beacon _ _ _ _ => .beacon
  | .want _ _ _ _ => .want
  | .repair _ _ _ => .repair
  | .page _ _ _ => .page

/-- The items of an H list of `n` items from a byte position; an item whose origin byte is above 15 names no station and
is left out, as every item outside the roster is (R34). -/
def readItems (bs : List Byte) : Nat → Nat → List (Station × Nat)
  | 0, _ => []
  | n + 1, i =>
    match station? (byteAt bs i) with
    | some o => (o, word3At bs (i + 1)) :: readItems bs n (i + 4)
    | none => readItems bs n (i + 4)

/-- The body length that R97 allows a kind (check 5 of R100). -/
def lengthAllowed : FrameKind → Nat → Bool
  | .beacon, l => l == 11 || l == 15 || l == 19 || l == 23 || l == 27
  | .want, l => l == 5
  | .repair, l => 6 ≤ l && l ≤ 261
  | .page, l => 6 ≤ l && l ≤ 261

/-- The message of a body that is consistent with its kind (check 6 of R100). -/
def bodyMessage (kind : FrameKind) (sender : Station) (roster : BitVec 16) (bs : List Byte) : Option Message :=
  match kind with
  | .beacon =>
    if byteAt bs 10 ≤ 4 && bs.length == 11 + 4 * byteAt bs 10 && 1 ≤ word3At bs 7 then
      some (.beacon sender (byteAt bs 1) (BitVec.ofNat 16 (word2At bs 2))
        { withdrawn := (byteAt bs 0).testBit 0, full := (byteAt bs 0).testBit 1, joining := (byteAt bs 0).testBit 2
          published := word3At bs 4, floor := word3At bs 7, items := readItems bs (byteAt bs 10) 11 })
    else none
  | .want =>
    match station? (byteAt bs 0) with
    | some o =>
      if inMask roster o && 1 ≤ word3At bs 1 && 1 ≤ byteAt bs 4 && byteAt bs 4 ≤ 8 then
        some (.want sender o (word3At bs 1) (byteAt bs 4))
      else none
    | none => none
  | .repair =>
    match station? (byteAt bs 0) with
    | some o =>
      if inMask roster o && 1 ≤ word3At bs 1 && bs.length == 6 + byteAt bs 4 then
        some (.repair sender ⟨o, word3At bs 1⟩ (bs.drop 5))
      else none
    | none => none
  | .page =>
    if byteAt bs 0 == sender.val && 1 ≤ word3At bs 1 && bs.length == 6 + byteAt bs 4 then
      some (.page sender ⟨sender, word3At bs 1⟩ (bs.drop 5))
    else none

/-- What the checks of R100 make of a frame: a message, or the first counter to be charged. -/
inductive FrameCheck where
  | valid (m : Message)
  | crc | format | foreign
  deriving DecidableEq, Repr

/-- The checks of R100, in their order, on a frame of which `bits` bits have arrived. -/
def checkFrame (tag : Byte) (roster : BitVec 16) (bits : Nat) (a : Assembly) : FrameCheck :=
  let h := a.header
  if bits ≠ expectedBits (headerLength h) then .format
  else if a.crc.toNat ≠ a.check then .crc
  else if headerTag h ≠ tag || !inMask roster (headerSender h) then .foreign
  else
    match frameKind? (headerKind h) with
    | none => .format
    | some k =>
      if headerClass h ≠ k.cls || !lengthAllowed k (headerLength h) then .format
      else
        match bodyMessage k (headerSender h) roster a.body with
        | some m => .valid m
        | none => .format

end Sys2Proof.Machine
end

