-- ==== Sys2Proof/Machine/Flags.lean ====
section
/-! DEFINITION. The flags, counters and codes that the host reads: the line counters (R95), the status codes (R166) and
the encodings of section 11.4. -/

namespace Sys2Proof.Machine

/-! ## Line counters (R95) -/

/-- One more event, saturating at 65,535. -/
def countUp (n : Nat) : Nat := if n < 65535 then n + 1 else 65535

/-- The eight counters. -/
inductive Counter where
  | symbol | crc | truncated | format | foreign | arbLoss | collision | lineBreak
  deriving DecidableEq, Repr

/-- The counters with one event counted. -/
def Counters.count (c : Counters) : Counter → Counters
  | .symbol => { c with symbol := countUp c.symbol }
  | .crc => { c with crc := countUp c.crc }
  | .truncated => { c with truncated := countUp c.truncated }
  | .format => { c with format := countUp c.format }
  | .foreign => { c with foreign := countUp c.foreign }
  | .arbLoss => { c with arbLoss := countUp c.arbLoss }
  | .collision => { c with collision := countUp c.collision }
  | .lineBreak => { c with lineBreak := countUp c.lineBreak }

/-- The bytes that COUNTS returns (R170). -/
def Counters.bytes (c : Counters) : List Byte :=
  bytes2 c.symbol ++ bytes2 c.crc ++ bytes2 c.truncated ++ bytes2 c.format ++ bytes2 c.foreign
    ++ bytes2 c.arbLoss ++ bytes2 c.collision ++ bytes2 c.lineBreak

/-- The counters less the values that a COUNTS response (status byte first) has returned (R170). -/
def Counters.subtract (c : Counters) (returned : List Byte) : Counters :=
  { symbol := c.symbol - word2At returned 1, crc := c.crc - word2At returned 3
    truncated := c.truncated - word2At returned 5, format := c.format - word2At returned 7
    foreign := c.foreign - word2At returned 9, arbLoss := c.arbLoss - word2At returned 11
    collision := c.collision - word2At returned 13, lineBreak := c.lineBreak - word2At returned 15 }

/-! ## Status codes (R166, section 11.4) -/

/-- The ten status codes. -/
inductive Status where
  | ok | accepted | busy | badCmd | badArg | notReady | storeFull | seqExhausted | retired | empty
  deriving DecidableEq, Repr

/-- The status byte. -/
def Status.byte : Status → Byte
  | .ok => 0x00
  | .accepted => 0x01
  | .busy => 0x02
  | .badCmd => 0x03
  | .badArg => 0x04
  | .notReady => 0x05
  | .storeFull => 0x06
  | .seqExhausted => 0x07
  | .retired => 0x08
  | .empty => 0x09

/-! ## Command codes (section 11.4) -/

def codeStatus : Byte := 0x01
def codeNotice : Byte := 0x02
def codeCounts : Byte := 0x03
def codePeer : Byte := 0x04
def codeOrigin : Byte := 0x05
def codePublish : Byte := 0x10
def codeRead : Byte := 0x11
def codeTake : Byte := 0x12
def codeRetire : Byte := 0x13
def codeConfigure : Byte := 0x20
def codeRestart : Byte := 0x2F

/-- The command codes. -/
def commandCodes : List Byte :=
  [codeStatus, codeNotice, codeCounts, codePeer, codeOrigin, codePublish, codeRead, codeTake, codeRetire, codeConfigure,
    codeRestart]

/-! ## Codes of states and outcomes (section 11.4) -/

/-- The station state code. -/
def StationState.code : StationState → Nat
  | .unconfigured => 0
  | .configFault => 1
  | .scanning => 2
  | .listening => 3
  | .joining => 4
  | .active => 5
  | .mute => 6
  | .withdrawn => 7

/-- The peer state code. -/
def PeerState.code : PeerState → Nat
  | .absent => 0
  | .live => 1
  | .silent => 2
  | .excluded => 3

/-- The role code in a response. -/
def Role.code : Role → Nat
  | .none => 0
  | .self => 1
  | .designated => 2
  | .standin => 3
  | .mark => 4

/-- The read status code. -/
def ReadStatus.code : ReadStatus → Nat
  | .ok => 0
  | .retired => 1
  | .unreachable => 2

/-- The outcome code of a PUBLISHED notice. -/
def PublishOutcome.code : PublishOutcome → Nat
  | .secured => 0
  | .under => 1
  | .retired => 2
  | .failed => 3

/-- The kind code and content bytes of a notice. -/
def Notice.content : Notice → List Byte
  | .published seq best outcome => byte 0x01 :: bytes3 seq ++ [byte best, byte outcome.code]
  | .readDone k status => byte 0x02 :: byte k.origin.val :: bytes3 k.seq ++ [byte status.code]
  | .retiredDone floor done => byte 0x03 :: bytes3 floor ++ [byte (!done).toNat]
  | .peerChange p st available => [byte 0x04, byte p.val, byte st.code, byte available.toNat]
  | .configMismatch p factor roster => [byte 0x05, byte p.val, byte (factor.toNat + 2 * roster.toNat)]
  | .duplicateId kind => [byte 0x06, byte kind]
  | .pageLost k role => byte 0x07 :: byte k.origin.val :: bytes3 k.seq ++ [byte role.code]
  | .wantStalled k => byte 0x08 :: byte k.origin.val :: bytes3 k.seq
  | .storage reason block recorded => byte 0x09 :: byte reason.code :: bytes2 block.val ++ [byte recorded.toNat]
  | .fullChange isSet => [byte 0x0A, byte isSet.toNat]
  | .lineFault stuck => [byte 0x0B, byte stuck.toNat]
  | .state new => [byte 0x0C, byte new.code]
  | .joinIncomplete holdings frontier wants => [byte 0x0D, byte (holdings.toNat + 2 * frontier.toNat), byte wants]

/-- The 8 bytes of a notice: kind code, content, and 0 for the rest. -/
def Notice.bytes (n : Notice) : List Byte := n.content ++ List.replicate (8 - n.content.length) 0

end Sys2Proof.Machine
end

