-- ==== Sys2Proof/Machine/Ops.lean ====
section
/-! DEFINITION. The named operations over the station's structures that every mechanism uses: the clock, notices and
ATTN (R171), the flash contents (R113), the block records (R115), the directory's records and entries (R16, R21), the
Transmit Queue (R103, R107) and the line counters. -/

namespace Sys2Proof.Machine

/-! ## Tables -/

/-- A table with one place changed. -/
def upd {α : Type} {n : Nat} (v : Vector α n) (i : Fin n) (f : α → α) : Vector α n :=
  v.set i.val (f (v.get i)) i.isLt

/-! ## Clock and configuration -/

/-- The clock moved to a moment, if it has not passed it (DESIGN CHOICE, notes/assumptions/3.md). -/
def State.reach (s : State) (t : Nat) : State := { s with now := max s.now t }

/-- One tick of the clock passes with no command waiting (DESIGN CHOICE, notes/assumptions/2.md). -/
def State.tick (s : State) : State := { s with now := s.now + 1 }

/-- The values of the configuration record, all 0 without one (R168). -/
def State.cfg (s : State) : ConfigRecord := s.ctl.config.getD .zero

/-- The own station number. -/
def State.self (s : State) : Station := s.cfg.number

/-- Whether a number is a member of the roster. -/
def State.inRoster (s : State) (o : Station) : Bool := inMask s.cfg.roster o

/-- Whether the station state is one of LISTENING, JOINING, ACTIVE, MUTE and WITHDRAWN, in which frames are taken (R28)
and the arbiter grants (R115, R154). -/
def State.running (s : State) : Bool :=
  match s.ctl.state with
  | .listening | .joining | .active | .mute | .withdrawn => true
  | .unconfigured | .configFault | .scanning => false

/-- Whether the station may store pages and fill the Want List: LISTENING, JOINING or ACTIVE (R53, R60). -/
def State.storing (s : State) : Bool :=
  match s.ctl.state with
  | .listening | .joining | .active => true
  | .mute | .withdrawn | .unconfigured | .configFault | .scanning => false

/-- Whether the station may begin frames: JOINING, ACTIVE or WITHDRAWN (R82, R107). -/
def State.mayDrive (s : State) : Bool :=
  match s.ctl.state with
  | .joining | .active | .withdrawn => true
  | .listening | .mute | .unconfigured | .configFault | .scanning => false

/-- Whether happenings are taken at all: RESET is high (R150) and the station is not stopping (R151). -/
def State.awake (s : State) : Bool := !s.resetLow && !s.ctl.stopping

/-! ## Notices -/

/-- Post a notice (R171): it joins the tail and ATTN falls, or it is dropped with the overflow flag set. None is posted
while the station is stopping (R151). -/
def State.post (s : State) (n : Notice) : State :=
  if s.ctl.stopping then s
  else if s.port.notices.length < 16 then
    { s with port := { s.port with notices := s.port.notices ++ [n], attn := true } }
  else { s with port := { s.port with overflow := true, dropped := true } }

/-- Enter a station state, with its STATE notice (R149). -/
def State.enter (s : State) (st : StationState) : State :=
  { s with ctl := { s.ctl with state := st, since := s.now } }.post (.state st)

/-! ## Flash contents -/

/-- What a number holds; none when it is blank. -/
def Store.read (m : Store) (a : Nat) : Option FlashCell :=
  match m with
  | [] => none
  | (b, c) :: r => if b = a then some c else Store.read r a

/-- Program a number. -/
def Store.put (m : Store) (a : Nat) (c : FlashCell) : Store :=
  match m with
  | [] => [(a, c)]
  | (b, d) :: r => if a < b then (a, c) :: (b, d) :: r else if a = b then (a, c) :: r else (b, d) :: Store.put r a c

/-- Keep the numbers that pass and make the others blank. -/
def Store.keep (m : Store) (p : Nat → Bool) : Store := m.filter fun e => p e.1

/-- The canonical form: numbers strictly rising. -/
def Store.wf : Store → Bool
  | [] => true
  | [_] => true
  | (a, _) :: (b, d) :: r => a < b && Store.wf ((b, d) :: r)

/-- The number of a slot in the store of slots. -/
def Loc.number (l : Loc) : Nat := 32 * l.block.val + l.slot.val

/-- Set what a slot holds. -/
def State.putSlot (s : State) (l : Loc) (c : FlashCell) : State :=
  { s with array := { s.array with flash := { s.array.flash with slots := s.array.flash.slots.put l.number c } } }

/-- Set what a block's tag holds. -/
def State.putTag (s : State) (b : Block) (c : FlashCell) : State :=
  { s with array := { s.array with flash := { s.array.flash with tags := s.array.flash.tags.put b.val c } } }

/-- The flash with a block erased: every slot and the tag blank (R126). -/
def Flash.erase (f : Flash) (b : Block) : Flash :=
  { slots := f.slots.keep fun a => a / 32 != b.val, tags := f.tags.keep fun a => a != b.val }

/-- A slot's cell made INVALID where a mask says so. -/
def tearSlots (b : Block) (invalid : BitVec 32) (slots : Store) : Store :=
  (List.range 32).foldl (fun m i => if invalid.getLsbD i then m.put (32 * b.val + i) .torn else m) slots

/-- The slots that read INVALID after an erase cut short by a cold start (R134): any set that holds one slot and leaves
another out, as the open values of Config say. -/
def cutEraseMask (n : Nat) : BitVec 32 :=
  let i := (Config.cutEraseInvalidSlot n).val
  let j := (i + (Config.cutEraseBlankStep n).val + 1) % 32
  (Config.cutEraseInvalid n ||| (1#32 <<< i)) &&& ~~~(1#32 <<< j)

/-- The flash after an erase of a block cut short by a cold start (R134): some slots INVALID and the others blank, and the
tag blank or INVALID. -/
def Flash.cutErase (f : Flash) (b : Block) (n : Nat) : Flash :=
  let e := f.erase b
  { slots := tearSlots b (cutEraseMask n) e.slots
    tags := if Config.cutEraseTagInvalid n then e.tags.put b.val .torn else e.tags }

/-- The flash after an erase of a block that ended FAIL (R126): some slots may be left programmed, as the open values of
Config say. -/
def Flash.failedErase (f : Flash) (b : Block) (n : Nat) : Flash :=
  let kept := Config.failedEraseKept n
  { slots := tearSlots b (Config.failedEraseInvalid n &&& ~~~kept)
      (f.slots.keep fun a => a / 32 != b.val || kept.getLsbD (a % 32))
    tags := if Config.failedEraseTagKept n then f.tags else f.tags.keep fun a => a != b.val }

/-- What a page read with so many bit errors delivers when it is CLEAN or CORRECTED: the header and the payload (R123).
None when it is UNCORRECTABLE: more errors than can be corrected, or a header check that is not met. -/
def State.pageAt (s : State) (l : Loc) (errors : Nat) : Option (PageHeader × List Byte) :=
  match s.array.flash.slots.read l.number with
  | some (.written head data) =>
    match decodeHeader head with
    | .valid h => if errors ≤ 4 then some (h, data) else none
    | .blank | .invalid => none
  | some .torn | none => none

/-! ## Block records -/

/-- A storage block's record (R115). -/
def State.block (s : State) (b : Block) : BlockRec := s.array.blocks.get b

/-- Change a storage block's record. -/
def State.setBlock (s : State) (b : Block) (f : BlockRec → BlockRec) : State :=
  { s with array := { s.array with blocks := upd s.array.blocks b f } }

/-- The storage blocks with their records, in ascending number. -/
def State.storageBlocks (s : State) : List (Block × BlockRec) :=
  (s.array.blocks.toList.zipIdx.drop 1).map fun e => (Fin.ofNat 512 e.2, e.1)

/-- The OPEN block, if there is one (R115). -/
def State.openBlock (s : State) : Option Block :=
  (s.storageBlocks.find? fun e => e.2.state == .opened).map (·.1)

/-- The free count: the number of blocks in FREE, which are those of the Free Block List (R115, R117). -/
def State.freeCount (s : State) : Nat := s.array.freeList.length

/-- The bad block count (R115). -/
def State.badCount (s : State) : Nat := (s.storageBlocks.filter fun e => e.2.state == .bad).length

/-- With no OPEN block and a Free Block List that is not empty, its head becomes OPEN with used 0 (R117). -/
def State.openNext (s : State) : State :=
  match s.openBlock, s.array.freeList with
  | none, b :: rest =>
    { s with array := { s.array with freeList := rest } }.setBlock b fun r => { r with state := .opened, used := 0 }
  | _, _ => s

/-! ## Directory records and entries -/

/-- An origin record (section 1.3). -/
def State.org (s : State) (o : Station) : OriginRec := s.dir.origins.get o

/-- Change an origin record. -/
def State.setOrg (s : State) (o : Station) (f : OriginRec → OriginRec) : State :=
  { s with dir := { s.dir with origins := upd s.dir.origins o f } }

/-- A stand-in record (R15). -/
def State.standin (s : State) (o : Station) : StandInRec := s.dir.standins.get o

/-- Change a stand-in record. -/
def State.setStandin (s : State) (o : Station) (f : StandInRec → StandInRec) : State :=
  { s with dir := { s.dir with standins := upd s.dir.standins o f } }

/-- The designated set D(o) in rank order (R2). -/
def State.designated (s : State) (o : Station) : List Station := s.dir.designated.get o

/-- The station's designated rank for an origin whose D(o) contains it (R3). -/
def State.designatedRank (s : State) (o : Station) : Nat := (s.designated o).idxOf s.self

/-- Whether the designation role is SELF or DESIGNATED, read from the role field (R4). -/
def State.holds (s : State) (o : Station) : Bool :=
  match (s.org o).role with
  | .self | .designated => true
  | .none | .standin | .mark => false

/-- The directory entry of a key. -/
def State.entry? (s : State) (k : Key) : Option Entry := s.dir.entries.find? fun e => e.key == k

/-- The entries of one origin in ascending seq order (R22). -/
def State.entriesOf (s : State) (o : Station) : List Entry := s.dir.entries.filter fun e => e.key.origin == o

/-- Entries in key order with one more. -/
def insertEntry (e : Entry) : List Entry → List Entry
  | [] => [e]
  | d :: r => if e.key.le d.key then e :: d :: r else d :: insertEntry e r

/-- Change the entry of a key. -/
def State.setEntry (s : State) (k : Key) (f : Entry → Entry) : State :=
  { s with dir := { s.dir with entries := s.dir.entries.map fun e => if e.key = k then f e else e } }

/-- The four outcomes of a lookup (R21). -/
inductive Lookup where
  | belowFloor (floor : Nat)
  | landing (e : Entry) (buffer : BufRef)
  | live (e : Entry) (loc : Loc) (stamp : Nat)
  | absent (known : Nat)
  deriving DecidableEq, Repr

/-- Look a key up (R21). -/
def State.lookup (s : State) (k : Key) : Lookup :=
  if k.seq < (s.org k.origin).floor then .belowFloor (s.org k.origin).floor
  else
    match s.entry? k with
    | some e =>
      match e.place with
      | .landing b => .landing e b
      | .live l t => .live e l t
    | none => .absent (s.org k.origin).known

/-- Whether the entry of a key names a slot. -/
def State.namesSlot (s : State) (k : Key) (l : Loc) : Bool :=
  match s.entry? k with
  | some e =>
    match e.place with
    | .live l' _ => l' == l
    | .landing _ => false
  | none => false

/-- Whether the mark entry names a slot. -/
def State.markNames (s : State) (l : Loc) : Bool :=
  match s.dir.mark with
  | some m => m.loc == l
  | none => false

/-- What names a slot of a block: an entry, the mark entry, or nothing (the slot is then stale or blank). -/
def State.namedBy (s : State) (l : Loc) : Option ReadTarget :=
  if s.markNames l then some .mark
  else
    (s.dir.entries.find? fun e =>
      match e.place with
      | .live l' _ => l' == l
      | .landing _ => false).map fun e => .page e.key

/-- The lowest slot of a block, from a number on, that an entry or the mark entry names. -/
def State.firstNamed (s : State) (b : Block) (start : Nat) : Option (Slot × ReadTarget) :=
  ((List.range 32).filter (start ≤ ·)).findSome? fun i =>
    (s.namedBy ⟨b, Fin.ofNat 32 i⟩).map fun t => (Fin.ofNat 32 i, t)

/-- One more LIVE entry names a slot of the block (R18). -/
def State.addLive (s : State) (b : Block) : State := s.setBlock b fun r => { r with live := r.live + 1 }

/-- One LIVE entry fewer names a slot of the block (R23). -/
def State.subLive (s : State) (b : Block) : State := s.setBlock b fun r => { r with live := r.live - 1 }

/-- The mark entry made to name a slot (R20); the live counts change as for a relocation. -/
def State.moveMark (s : State) (l : Loc) (stamp : Nat) : State :=
  let s :=
    match s.dir.mark with
    | some m => s.subLive m.loc.block
    | none => s
  { s with dir := { s.dir with mark := some ⟨l, stamp⟩ } }.addLive l.block

/-- A LIVE entry made to name a new slot (R19). -/
def State.moveEntry (s : State) (k : Key) (old new : Loc) (stamp : Nat) : State :=
  ((s.setEntry k fun e => { e with place := .live new stamp }).subLive old.block).addLive new.block

/-! ## Membership -/

/-- A membership entry (R26). -/
def State.peer (s : State) (p : Station) : PeerEntry := s.members.peers.get p

/-- Change a membership entry. -/
def State.setPeer (s : State) (p : Station) (f : PeerEntry → PeerEntry) : State :=
  { s with members := { s.members with peers := upd s.members.peers p f } }

/-! ## Line -/

/-- Count one event (R95). -/
def State.count (s : State) (c : Counter) : State :=
  { s with line := { s.line with counters := s.line.counters.count c } }

/-- A number of sixteenths of U, in ticks. -/
def State.sixteenths (s : State) (n : Nat) : Nat := n * s.cfg.sixteenth

/-- A number of U, in ticks. -/
def State.units (s : State) (n : Nat) : Nat := n * s.cfg.unit

/-- Whether the line interface is active: from SCANNING onward (R74). -/
def State.lineActive (s : State) : Bool := !s.resetLow && s.ctl.config.isSome

/-! ## Transmit Queue -/

/-- The key by which entries of one kind are ordered last; a WANT's is its origin and first seq (R107). -/
def targetKey : TxTarget → Key
  | .beacon => ⟨0, 0⟩
  | .page k => k
  | .repair k => k
  | .want o first _ => ⟨o, first⟩

/-- The queue order: class descending, then earliest start, insertion time and key ascending (R107). -/
def TxEntry.before (a b : TxEntry) : Bool :=
  let ca := (targetKind a.target).cls
  let cb := (targetKind b.target).cls
  if ca != cb then cb < ca
  else if a.earliest != b.earliest then a.earliest < b.earliest
  else if a.inserted != b.inserted then a.inserted < b.inserted
  else (targetKey a.target).le (targetKey b.target) && targetKey a.target != targetKey b.target

/-- A queue with one more entry at its place in the order: behind an entry that equals it in all that R107 compares
(DESIGN CHOICE, notes/assumptions/36.md). -/
def insertTx (e : TxEntry) : List TxEntry → List TxEntry
  | [] => [e]
  | d :: r => if e.before d then e :: d :: r else d :: insertTx e r

/-- A new entry for a target, with its earliest start, placed now. -/
def State.newTx (s : State) (t : TxTarget) (earliest : Nat) : TxEntry :=
  { target := t, earliest := earliest, inserted := s.now, staged := false, byWants := false, byFetch := false
    cancelled := false, renew := false }

/-- Place an entry (R104). -/
def State.place (s : State) (e : TxEntry) : State :=
  { s with engine := { s.engine with queue := insertTx e s.engine.queue } }

/-- The queued entry for a target. -/
def State.tx? (s : State) (t : TxTarget) : Option TxEntry := s.engine.queue.find? fun e => e.target == t

/-- Change the entry for a target. -/
def State.setTx (s : State) (t : TxTarget) (f : TxEntry → TxEntry) : State :=
  { s with engine := { s.engine with queue := s.engine.queue.map fun e => if e.target = t then f e else e } }

/-- Whether a target's entry is in transmission (R107). -/
def State.inTransmission (s : State) (t : TxTarget) : Bool :=
  match s.engine.sending with
  | some x => x.target == t
  | none => false

/-- The number of queued entries of a kind. -/
def State.txCount (s : State) (k : FrameKind) : Nat :=
  (s.engine.queue.filter fun e => targetKind e.target == k).length

/-- The Repair Staging Buffer given up by a key's entry (R109): free at once, or when the read that is running ends. -/
def State.unstage (s : State) (k : Key) : State :=
  match s.engine.staging with
  | some b =>
    if b.key = k then
      match b.phase with
      | .reading => { s with engine := { s.engine with staging := some { b with dropped := true } } }
      | .requested | .staged => { s with engine := { s.engine with staging := none } }
    else s
  | none => s

/-- The Repair Staging Buffer given up, whichever entry holds it (R109). -/
def State.giveUpStaging (s : State) : State :=
  match s.engine.staging with
  | some b => s.unstage b.key
  | none => s

/-- An entry leaves the queue; a staged REPAIR frees the staging buffer (R110, R111). -/
def State.removeTx (s : State) (t : TxTarget) : State :=
  let s := { s with engine := { s.engine with queue := s.engine.queue.filter fun e => e.target != t } }
  match t with
  | .repair k => s.unstage k
  | .beacon | .page _ | .want _ _ _ => s

/-- Cancel an entry (R111): removed, or its cancelled flag set while it is in transmission. -/
def State.cancelTx (s : State) (t : TxTarget) : State :=
  match s.tx? t with
  | none => s
  | some _ =>
    if s.inTransmission t then s.setTx t fun e => { e with cancelled := true } else s.removeTx t

end Sys2Proof.Machine
end

