-- ==== Sys2Proof/Machine/Placement.lean ====
section
/-! DEFINITION. Designated sets (R2, R3), availability in the station's view (R12, R36), and the stand-in rank that
follows from both (R13). -/

namespace Sys2Proof.Machine

/-- The other station numbers in cyclic order after `o`. -/
def cycleAfter (o : Station) : List Station := (List.range 15).map fun i => o + Fin.ofNat 16 (i + 1)

/-- The designated set of a roster member, in rank order; empty for a number outside the roster (R2). -/
def designatedSet (roster : BitVec 16) (factor : Nat) (o : Station) : List Station :=
  if inMask roster o then o :: ((cycleAfter o).filter (inMask roster)).take (factor - 1) else []

/-- The designation role at station `x` (R3). -/
def designationRole (x o : Station) (d : List Station) : Role :=
  if d.contains x then if x = o then .self else .designated else .none

/-- Put the designated sets and the roles of SELF and DESIGNATED origins in place (R2 to R4). -/
def State.designate (s : State) : State :=
  stations.foldl (fun s o =>
    let d := designatedSet s.cfg.roster s.cfg.factor o
    let s := { s with dir := { s.dir with designated := upd s.dir.designated o fun _ => d } }
    s.setOrg o fun r => { r with role := designationRole s.self o d }) s

/-- Whether the station counts itself available (R12). -/
def State.selfAvailable (s : State) : Bool := !s.array.full && s.storing

/-- Whether a last beacon record allows availability (R36). -/
def beaconAllows : Option BeaconRec → Bool
  | none => true
  | some b => !b.withdrawn && !b.full

/-- Whether a roster peer is available in the station's view (R36). -/
def State.peerAvailable (s : State) (p : Station) : Bool :=
  s.inRoster p && p != s.self && beaconAllows (s.peer p).beacon &&
    match (s.peer p).state with
    | .live => true
    | .absent => s.ctl.state == .listening
    | .silent | .excluded => false

/-- Whether a station, this one included, is available in the station's view. -/
def State.available (s : State) (p : Station) : Bool := if p = s.self then s.selfAvailable else s.peerAvailable p

/-- The peers that are available. -/
def State.view (s : State) : BitVec 16 := rosterOf (stations.filter s.peerAvailable)

/-- U of R13: the members of D(o) other than o that are unavailable, in rank order. -/
def State.missingHolders (s : State) (o : Station) : List Station :=
  ((s.designated o).drop 1).filter fun p => !s.available p

/-- A of R13: the available roster members outside D(o), in cyclic order from the one after the last of D(o). -/
def State.candidates (s : State) (o : Station) : List Station :=
  match (s.designated o).getLast? with
  | some last => (cycleAfter last).filter fun p => s.inRoster p && !(s.designated o).contains p && s.available p
  | none => []

/-- The stand-in rank of the station for an origin, 0 when it does not stand for it (R13). -/
def State.standInRank (s : State) (o : Station) : Nat :=
  let a := s.candidates o
  let k := a.idxOf s.self + 1
  if a.contains s.self && k ≤ (s.missingHolders o).length then k else 0

end Sys2Proof.Machine
end

