-- ==== Sys2Proof/Machine/Replicate.lean ====
section
/-! DEFINITION. The shared operations of the Page Directory and the replication engine: frontiers and held-through (R7 to
R10), the Want List fill (R60), the completion of a read (R176), the fetch (R69 to R71), release (R23), insertion (R17),
the endings of a publish (R49 to R52), loss (R24), stand-in evaluation and release (R13, R72), and a rising floor (R6). -/

namespace Sys2Proof.Machine

/-! ## Want List fill (R60) -/

/-- Wants in ascending key order with one more. -/
def insertWant (w : Want) : List Want → List Want
  | [] => [w]
  | v :: r => if w.key.le v.key then w :: v :: r else v :: insertWant w r

/-- Add the keys of an origin from a seq on, so many of them, stopping when the list holds 64 (R60). -/
def fillKeys (entries : List Entry) (o : Station) : Nat → Nat → List Want → List Want
  | 0, _, ws => ws
  | n + 1, q, ws =>
    if 64 ≤ ws.length then ws
    else
      fillKeys entries o n (q + 1)
        (if entries.any (fun e => e.key == ⟨o, q⟩) || ws.any (fun w => w.key == ⟨o, q⟩) then ws
          else insertWant ⟨⟨o, q⟩, .idle, 0, none⟩ ws)

/-- The fill for one origin (R60). -/
def State.fill (s : State) (o : Station) : State :=
  if s.storing && s.holds o then
    let r := s.org o
    { s with repl := { s.repl with wants := fillKeys s.dir.entries o (r.known - r.held) (r.held + 1) s.repl.wants } }
  else s

/-- The fill over every SELF and DESIGNATED origin, in ascending number (R60). -/
def State.fillAll (s : State) : State := stations.foldl State.fill s

/-! ## Frontier, held-through and published sequence -/

/-- In JOINING, P of the own origin is kept at no less than K[self] (R159). -/
def State.liftPublished (s : State) : State :=
  if s.ctl.state = .joining then s.setOrg s.self fun r => { r with published := max r.published r.known } else s

/-- K[o] told a value (R7). -/
def State.tellKnown (s : State) (o : Station) (v : Nat) : State :=
  if s.inRoster o && (s.org o).known < v then
    let s := s.setOrg o fun r => { r with known := v }
    (if o = s.self then s.liftPublished else s).fill o
  else s

/-- P of the own origin set to a value, which K[self] is then told (R11). -/
def State.setPublished (s : State) (v : Nat) : State :=
  (s.setOrg s.self fun r => { r with published := v }).tellKnown s.self v

/-- H[o] set to a value; a change is passed on to the fill (R9, R10). -/
def State.setHeld (s : State) (o : Station) (h : Nat) : State :=
  if (s.org o).held = h then s else (s.setOrg o fun r => { r with held := h }).fill o

/-- The highest seq reached from `h` over entries that are present (R8), with as many steps as there are entries. -/
def runHeld (entries : List Entry) (o : Station) : Nat → Nat → Nat
  | 0, h => h
  | n + 1, h => if entries.any (fun e => e.key == ⟨o, h + 1⟩) then runHeld entries o n (h + 1) else h

/-- H advanced over present entries, for a SELF or DESIGNATED origin (R9). -/
def State.advanceHeld (s : State) (o : Station) : State :=
  if s.holds o then s.setHeld o (runHeld s.dir.entries o s.dir.entries.length (s.org o).held) else s

/-- H lowered when a counted entry has gone (R10). An entry above H leaves H as it is, and so no fill runs: the key of a
lost page that was held above a gap enters the Want List at the next run of the fill (R24, R51, R60; DESIGN CHOICE,
notes/assumptions/31.md). -/
def State.lowerHeld (s : State) (k : Key) : State :=
  if s.holds k.origin && (s.org k.origin).floor ≤ k.seq && k.seq ≤ (s.org k.origin).held then
    s.setHeld k.origin (k.seq - 1)
  else s

/-! ## Completing a read; the fetch -/

/-- A read completes (R176): result in the Read Buffer, HELD, READ_DONE. -/
def State.completeRead (s : State) (k : Key) (status : ReadStatus) (payload : List Byte) : State :=
  { s with
    port := { s.port with read := .held, readRequested := false, readBuffer := some ⟨status, k, payload⟩ } }.post
      (.readDone k status)

/-- The fetch goes to DONE and hands its result to the port (R71); an ask it still holds is dropped with it. -/
def State.endFetch (s : State) (status : ReadStatus) (payload : List Byte) : State :=
  match s.repl.fetch with
  | some f => { s with repl := { s.repl with fetch := none } }.completeRead f.key status payload
  | none => s

/-- The target of a WANT that asks for one key. -/
def wantOne (k : Key) : TxTarget := .want k.origin k.seq 1

/-- Place the fetch's ask (R69, R106; DESIGN CHOICE, notes/assumptions/17.md and 27.md): join an identical WANT, hold the
ask while a WANT of an earlier fetch is queued, or place a WANT with its earliest start at once. A WANT in transmission
that its owners had withdrawn from is joined too, and is cancelled no more (DESIGN CHOICE, notes/assumptions/33.md). -/
def State.askFetch (s : State) (f : Fetch) : State :=
  match s.tx? (wantOne f.key) with
  | some _ =>
    { s with repl := { s.repl with fetch := some { f with held := false } } }.setTx (wantOne f.key) fun e =>
      { e with byFetch := true, cancelled := false }
  | none =>
    if s.engine.queue.any (·.byFetch) then { s with repl := { s.repl with fetch := some { f with held := true } } }
    else
      { s with repl := { s.repl with fetch := some { f with held := false } } }.place
        { s.newTx (wantOne f.key) s.now with byFetch := true }

/-- A fetch begins for a key (R69); in MUTE it ends at once. -/
def State.beginFetch (s : State) (k : Key) : State :=
  if s.ctl.state = .mute then s.completeRead k .unreachable []
  else { s with port := { s.port with read := .fetching } }.askFetch ⟨k, 1, none, false⟩

/-! ## Release (R23) -/

/-- A landing buffer becomes free. -/
def State.freeBuffer (s : State) (i : Fin 4) : State :=
  { s with repl := { s.repl with landing := { s.repl.landing with
      buffers := upd s.repl.landing.buffers i fun _ => none } } }

/-- A page leaves the Landing Queue (R58): its request is withdrawn if it was head and not granted, and its buffer is
freed unless a granted program still reads from it. -/
def State.dropLanding (s : State) (i : Fin 4) : State :=
  let l := s.repl.landing
  let s :=
    { s with repl := { s.repl with landing := { l with
        queue := l.queue.erase i, requested := l.requested && l.queue.head? != some i } } }
  if l.granted = some i then s else s.freeBuffer i

/-- An ungranted host read request of a released key ends (R122, R175): RETIRED below the floor, and otherwise the read
goes on as a fetch. -/
def State.endHostRead (s : State) (k : Key) : State :=
  if s.port.readRequested && s.port.readKey == some k then
    let s := { s with port := { s.port with readRequested := false } }
    if k.seq < (s.org k.origin).floor then s.completeRead k .retired [] else s.beginFetch k
  else s

/-- What an entry held is undone: the live count of its slot's block, its landing buffer, or its program request. -/
def State.undoPlace (s : State) (p : Place) : State :=
  match p with
  | .live l _ => s.subLive l.block
  | .landing (.landing i) => s.dropLanding i
  | .landing .publish => { s with repl := { s.repl with publish := { s.repl.publish with requested := false } } }

/-- Release of an entry (R23). -/
def State.release (s : State) (k : Key) : State :=
  match s.entry? k with
  | none => s
  | some e =>
    let s := { s with dir := { s.dir with entries := s.dir.entries.filter fun d => d.key != k } }
    let s := (s.undoPlace e.place).lowerHeld k
    ((s.cancelTx (.repair k)).cancelTx (.page k)).endHostRead k

/-- Release of several entries, one after another (R22). -/
def State.releaseAll (s : State) (ks : List Key) : State := ks.foldl State.release s

/-! ## Insertion (R17) -/

/-- Whether the directory accepts a new entry for a key (R17). -/
def State.mayInsert (s : State) (k : Key) : Bool :=
  (s.entry? k).isNone && (s.org k.origin).floor ≤ k.seq

/-- The stand-in record extended by a stored seq (R15). -/
def StandInRec.extend (r : StandInRec) (q : Nat) : StandInRec :=
  if r.fromSeq = 0 then { r with fromSeq := q, toSeq := q }
  else { r with fromSeq := min r.fromSeq q, toSeq := max r.toSeq q }

/-- Insert an entry (R17): H advances when the seq closes the run (R9), and a STANDIN page extends the record (R15). -/
def State.insert (s : State) (e : Entry) : State :=
  if s.mayInsert e.key then
    let o := e.key.origin
    let s := { s with dir := { s.dir with entries := insertEntry e s.dir.entries } }
    let s := if e.key.seq = (s.org o).held + 1 then s.advanceHeld o else s
    if e.role = .standin then s.setStandin o fun r => r.extend e.key.seq else s
  else s

/-- A want leaves the list because its key has been inserted; the fill then runs (R64). -/
def State.settleWant (s : State) (k : Key) : State :=
  if s.repl.wants.any fun w => w.key == k then
    { s with repl := { s.repl with wants := s.repl.wants.filter fun w => w.key != k } }.fillAll
  else s

/-- An asking fetch for a key whose entry has been inserted completes from the entry's buffer (R71). -/
def State.fetchInserted (s : State) (k : Key) (payload : List Byte) : State :=
  match s.repl.fetch with
  | some f => if f.key = k then s.endFetch .ok payload else s
  | none => s

/-- The landing buffer to be taken next: the lowest-numbered free one (DESIGN CHOICE, notes/assumptions/17.md). -/
def State.freeBuffer? (s : State) : Option (Fin 4) :=
  [0, 1, 2, 3].find? fun i => (s.repl.landing.buffers.get i).isNone

/-- A page taken into a landing buffer (R54, R68): entry, stand-in record, want, Landing Queue and fetch. -/
def State.land (s : State) (i : Fin 4) (k : Key) (payload : List Byte) : State :=
  let role := (s.org k.origin).role
  let s :=
    { s with repl := { s.repl with landing := { s.repl.landing with
        buffers := upd s.repl.landing.buffers i fun _ => some ⟨k, role, payload⟩ } } }
  let s := (s.insert ⟨k, role, payload.length, .landing (.landing i)⟩).settleWant k
  let s := { s with repl := { s.repl with landing := { s.repl.landing with queue := s.repl.landing.queue ++ [i] } } }
  s.fetchInserted k payload

/-! ## Endings of a publish (R46 to R52) -/

/-- The key of the page being published. -/
def State.publishKey (s : State) : Key := ⟨s.self, s.repl.publish.seq⟩

/-- Change the publish state. -/
def State.setPublish (s : State) (f : Publish → Publish) : State :=
  { s with repl := { s.repl with publish := f s.repl.publish } }

/-- Whether a program's page lies in the Publish Buffer. -/
def ProgOwner.inPublishBuffer : ProgOwner → Bool
  | .publish _ => true
  | .landing _ _ | .mark | .copy _ _ | .markCopy _ | .freshMark _ => false

/-- Whether a granted program still reads from the Publish Buffer (R49): it is running, or failed and is pending. -/
def State.publishReading (s : State) : Bool :=
  (match s.array.running with
    | some ⟨.program _ item _ _, _⟩ => item.owner.inPublishBuffer
    | _ => false) ||
  (match s.array.failure.page with
    | some (item, _) => item.owner.inPublishBuffer
    | none => false)

/-- From DONE the publish returns to IDLE, the buffer freed, once no program reads from it (R49). -/
def State.finishPublish (s : State) : State :=
  if s.repl.publish.phase = .done && !s.publishReading then s.setPublish fun _ => .start else s

/-- The publish goes to DONE with an outcome (R49). -/
def State.publishDone (s : State) (outcome : PublishOutcome) : State :=
  let p := s.repl.publish
  ((s.setPublish fun p => { p with phase := .done, outcome := some outcome, overtaken := none, requested := false }).post
    (.published p.seq p.best outcome)).finishPublish

/-- The own floor has risen above the publish's seq (R50; DESIGN CHOICE, notes/assumptions/16.md). -/
def State.publishRetired (s : State) : State :=
  let p := s.repl.publish
  if p.seq < (s.org s.self).floor then
    match p.phase with
    | .programming => s.publishDone .retired
    | .sending =>
      if s.inTransmission (.page s.publishKey) then s.setPublish fun p => { p with overtaken := some .retired }
      else s.publishDone .retired
    | .awaitAcks => s.setPublish fun p => { p with overtaken := some .retired }
    | .idle | .done => s
  else s

/-- The local copy of the page being published is lost (R51). -/
def State.publishLost (s : State) (k : Key) : State :=
  let p := s.repl.publish
  if k = s.publishKey then
    match p.phase with
    | .sending =>
      if s.inTransmission (.page k) then s.setPublish fun p => { p with overtaken := p.overtaken.or (some .under) }
      else s.publishDone .under
    | .awaitAcks => s.setPublish fun p => { p with overtaken := p.overtaken.or (some .under) }
    | .idle | .programming | .done => s
  else s

/-- A publish in PROGRAMMING ends FAILED, its entry released (R52). -/
def State.publishFailed (s : State) : State :=
  if s.repl.publish.phase = .programming then (s.release s.publishKey).publishDone .failed else s

/-- Place the PAGE of the publish, staged, with an earliest start (R46, R48, R104). -/
def State.placePage (s : State) (earliest : Nat) : State :=
  s.place { s.newTx (.page s.publishKey) earliest with staged := true }

/-- The program of the page being published has completed OK (R46, R52). -/
def State.publishProgrammed (s : State) : State :=
  if s.repl.publish.phase = .programming then
    if s.ctl.state = .mute then s.publishDone .under
    else if s.cfg.factor = 1 then s.publishDone .secured
    else (s.setPublish fun p => { p with phase := .sending, attempt := 1 }).placePage s.now
  else s

/-- The number of acked slots. -/
def ackedCount (acked : BitVec 8) : Nat := ((List.range 8).filter acked.getLsbD).length

/-- The ack window of the publish has ended (R48, R50 to R52). -/
def State.publishWindow (s : State) (acked : BitVec 8) : State :=
  if s.repl.publish.phase = .awaitAcks then
    let n := ackedCount acked
    let s := s.setPublish fun p => { p with best := max p.best n }
    let p := s.repl.publish
    match p.overtaken with
    | some outcome => s.publishDone outcome
    | none =>
      if s.cfg.factor - 1 ≤ n then s.publishDone .secured
      else if p.attempt < 3 && s.ctl.state != .mute then
        (s.setPublish fun p => { p with phase := .sending, attempt := p.attempt + 1 }).placePage
          (s.now + s.units (32 * p.attempt))
      else s.publishDone .under
  else s

/-! ## Loss (R24) -/

/-- An UNCORRECTABLE read of a slot (R24): the entry that names it is released and PAGE_LOST posted. -/
def State.pageLost (s : State) (k : Key) (l : Loc) : State :=
  match s.entry? k with
  | some e =>
    if s.namesSlot k l then ((s.release k).post (.pageLost k e.role)).publishLost k else s
  | none => s

/-! ## Stand-in duty (R12 to R15, R72) -/

/-- Whether a beacon record carries an H item for an origin at or above a seq (R72). Of two items for one origin, which
R100 lets pass and R34 stores, either will do (DESIGN CHOICE, notes/assumptions/24.md). -/
def heldItemAtLeast (b : Option BeaconRec) (o : Station) (q : Nat) : Bool :=
  match b with
  | some b => b.items.any fun i => i.1 == o && q ≤ i.2
  | none => false

/-- Whether every station of a mask is available and advertises a held-through at or above a seq (R72). -/
def State.caughtUp (s : State) (o : Station) (r : StandInRec) : Bool :=
  (membersOf r.mask).all fun p => s.available p && heldItemAtLeast (s.peer p).beacon o r.toSeq

/-- A due stand-in record is released (R72). -/
def State.standInRelease (s : State) (o : Station) : State :=
  let ks := ((s.entriesOf o).filter fun e => e.role == .standin).map (·.key)
  let s := s.releaseAll ks
  s.setStandin o fun _ =>
    if (s.org o).role = .standin then { StandInRec.empty with mask := rosterOf (s.missingHolders o) } else .empty

/-- Check a stand-in record for release (R72). -/
def State.releaseCheck (s : State) (o : Station) : State :=
  let r := s.standin o
  if r.fromSeq ≠ 0 && (s.caughtUp o r || r.toSeq < (s.org o).floor) then s.standInRelease o else s

/-- The station stops standing for an origin (R14, R15, R72). -/
def State.stopStanding (s : State) (o : Station) : State :=
  let s := s.setOrg o fun r => { r with role := .none, rank := 0 }
  if (s.standin o).fromSeq = 0 then s.setStandin o fun _ => .empty else s.releaseCheck o

/-- Evaluate stand-in duty for one origin whose designation role is NONE (R13, R14). -/
def State.evaluateOne (s : State) (o : Station) : State :=
  if s.inRoster o && !(s.designated o).contains s.self then
    let k := s.standInRank o
    if k = 0 then if (s.org o).role = .standin then s.stopStanding o else s
    else
      let missing := rosterOf (s.missingHolders o)
      (s.setOrg o fun r => { r with role := .standin, rank := k }).setStandin o fun r =>
        { r with mask := r.mask ||| missing }
  else s

/-- Stand-in evaluation (R12). None is made in SCANNING (R25) or without a configuration. -/
def State.evaluate (s : State) : State := if s.running then stations.foldl State.evaluateOne s else s

/-- The records whose mask meets a set of stations are checked for release (R72). -/
def State.releaseChecks (s : State) (changed : BitVec 16) : State :=
  stations.foldl (fun s o => if (s.standin o).mask &&& changed ≠ 0 then s.releaseCheck o else s) s

/-- A change in availability is reported (R36): one evaluation against the whole new view, and the release checks of the
peers concerned. `before` is the view before the happening. -/
def State.report (s : State) (before : BitVec 16) : State :=
  let changed := before ^^^ s.view
  if changed = 0 then s else s.evaluate.releaseChecks changed

/-- A change of the station state has been made (R12): stand-in duty is evaluated, and peers whose availability changed
with it are reported (R37). -/
def State.afterStateChange (s : State) (before : BitVec 16) : State := s.evaluate.releaseChecks (before ^^^ s.view)

/-! ## A rising floor (R5, R6) -/

/-- Wants of an origin below its floor leave the list (R64). -/
def State.dropWants (s : State) (o : Station) : State :=
  let below (w : Want) : Bool := w.key.origin == o && w.key.seq < (s.org o).floor
  if s.repl.wants.any below then
    { s with repl := { s.repl with wants := s.repl.wants.filter fun w => !below w } }.fillAll
  else s

/-- A fetch below the floor of its origin ends RETIRED (R71). -/
def State.retireFetch (s : State) : State :=
  match s.repl.fetch with
  | some f => if f.key.seq < (s.org f.key.origin).floor then s.endFetch .retired [] else s
  | none => s

/-- The stand-in record of an origin whose floor has risen (R15). -/
def StandInRec.raiseFloor (r : StandInRec) (f : Nat) : StandInRec :=
  if f ≤ r.toSeq then { r with fromSeq := max r.fromSeq f } else r

/-- H after a rise of the floor (R6, step 3). -/
def State.heldAfterRise (s : State) (o : Station) (f : Nat) : Nat :=
  if s.holds o then runHeld s.dir.entries o s.dir.entries.length (max (s.org o).held (f - 1)) else f - 1

/-- Steps 1 and 2 of a rise (R6): F and K are set, and the entries below the floor released. -/
def State.setFloor (s : State) (o : Station) (f : Nat) : State :=
  let s := s.setOrg o fun r => { r with floor := f, known := max r.known (f - 1) }
  s.releaseAll (((s.entriesOf o).filter fun e => e.key.seq < f).map (·.key))

/-- Steps 3 and 4 of a rise (R6): H and the stand-in record. -/
def State.floorHeld (s : State) (o : Station) (f : Nat) : State :=
  (s.setOrg o fun r => { r with held := s.heldAfterRise o f }).setStandin o fun r => r.raiseFloor f

/-- Step 5 of a rise (R6): the replication engine drops wants, ends a fetch and overtakes a publish, and runs the fill. -/
def State.floorTold (s : State) (o : Station) : State :=
  let s := (s.dropWants o).retireFetch
  (if o = s.self then s.publishRetired.liftPublished else s).fill o

/-- The floor of an origin rises (R6), step by step; the stand-in record is then checked for release (R72). -/
def State.raiseFloor (s : State) (o : Station) (f : Nat) : State :=
  (((s.setFloor o f).floorHeld o f).floorTold o).releaseCheck o

/-- The retire floor of an origin told a value (R5). -/
def State.tellFloor (s : State) (o : Station) (f : Nat) : State :=
  if s.inRoster o && (s.org o).floor < f then s.raiseFloor o f else s

end Sys2Proof.Machine
end

