-- ==== Sys2Proof/Machine/Control.lean ====
section
/-! DEFINITION. The shared operations of station control: entry to MUTE and WITHDRAWN (R162, R163), storage exhaustion
(R132), the JOINING exit (R160), and the two kinds of start (R150, R151). -/

namespace Sys2Proof.Machine

/-! ## Entry to MUTE and WITHDRAWN -/

/-- The entries that stay in the queue on entry to MUTE (R112): those in transmission, a WANT among them cancelled since
its owners withdraw (R106, R111). -/
def State.mutedQueue (s : State) : List TxEntry :=
  (s.engine.queue.filter fun e => s.inTransmission e.target).map fun e =>
    match e.target with
    | .want _ _ _ => { e with byWants := false, byFetch := false, cancelled := true }
    | .beacon | .page _ | .repair _ => e

/-- Every entry that is not in transmission is removed, and the staging buffer given up (R112). -/
def State.muteQueue (s : State) : State :=
  let s := { s with engine := { s.engine with queue := s.mutedQueue } }
  match s.engine.staging with
  | some b => if s.inTransmission (.repair b.key) then s else s.unstage b.key
  | none => s

/-- A pending ack whose pulse has not begun is dropped (R89, R94; DESIGN CHOICE, notes/assumptions/18.md). -/
def State.dropAck (s : State) : State :=
  if s.line.driven then s
  else
    { s with line := { s.line with
        pendingAck := none, tx := if s.line.tx = .acking then .quiet else s.line.tx } }

/-- The publish on entry to MUTE (R52): with its PAGE removed from the queue it ends UNDER. -/
def State.publishMuted (s : State) : State :=
  if s.repl.publish.phase = .sending && !s.inTransmission (.page s.publishKey) then s.publishDone .under else s

/-- Entry to MUTE (R162). The STATE notice comes before those of the work that ends (DESIGN CHOICE,
notes/assumptions/25.md). -/
def State.enterMute (s : State) : State :=
  let before := s.view
  let s := s.enter .mute
  let s := { s with members := { s.members with beaconTimer := none } }.muteQueue
  let s := { s with repl := { s.repl with wants := [] } }
  ((s.endFetch .unreachable []).publishMuted.dropAck).afterStateChange before

/-- The pages of the Landing Queue are discarded (R58). -/
def State.discardLanding (s : State) : State :=
  let ks := s.repl.landing.queue.filterMap fun i => (s.repl.landing.buffers.get i).map (·.key)
  let s := s.releaseAll ks
  let s :=
    match s.repl.landing.granted with
    | some i => s.freeBuffer i
    | none => s
  { s with repl := { s.repl with landing := { s.repl.landing with granted := none } } }

/-- The Want List withdraws from its WANT and is cleared (R64, R106). -/
def State.clearWants (s : State) : State :=
  let s := { s with repl := { s.repl with wants := [] } }
  match s.engine.queue.find? (·.byWants) with
  | some e =>
    let s := s.setTx e.target fun d => { d with byWants := false }
    if e.byFetch then s else s.cancelTx e.target
  | none => s

/-- A RETIRE in flight ends FAILED (R138). -/
def State.retireFailed (s : State) : State :=
  match s.retire.marking with
  | some f => { s with retire := .start }.post (.retiredDone f false)
  | none => s

/-- The first expiry of the beacon timer, own number × B/16 from now (R38). -/
def State.startBeaconTimer (s : State) : State :=
  { s with members := { s.members with
      beaconTimer := some (s.now + s.self.val * (s.cfg.interval / 16)) } }

/-- The work that ends when storage is given up: the Landing Queue's pages, a publish in PROGRAMMING and a RETIRE in
flight (R132, R162, R163). -/
def State.endStoring (s : State) : State := s.discardLanding.publishFailed.retireFailed

/-- The beacon timer on entry to WITHDRAWN: started from SCANNING and LISTENING, and running on otherwise (R163). -/
def State.withdrawnTimer (s : State) (old : StationState) : State :=
  if old = .scanning || old = .listening then s.startBeaconTimer else s

/-- Entry to WITHDRAWN (R163). The STATE notice comes before those of the work that ends (DESIGN CHOICE,
notes/assumptions/25.md). -/
def State.enterWithdrawn (s : State) : State :=
  (((s.enter .withdrawn).clearWants.endStoring).withdrawnTimer s.ctl.state).afterStateChange s.view

/-- Failure handling and reclaim become inactive, and the arbiter grants no more programs and erases (R132). Both relocation
buffers are freed, and reclaim's step and next slot stay as they are (DESIGN CHOICE, notes/assumptions/40.md). -/
def State.stopArray (s : State) : State :=
  { s with array := { s.array with
      exhausted := true
      failure := { s.array.failure with page := none, buffer := none }
      reclaim := { s.array.reclaim with buffer := none, mark := false } } }

/-- The station state after exhaustion: WITHDRAWN, or in MUTE the same stop of the array (R132, R162). -/
def State.withdraw (s : State) : State :=
  match s.ctl.state with
  | .mute | .withdrawn => s.endStoring
  | .unconfigured | .configFault | .scanning | .listening | .joining | .active => s.enterWithdrawn

/-- Storage is exhausted (R132): STORAGE is posted, and the station withdraws; the first exhaustion alone counts
(DEDUCED, notes/assumptions/19.md). -/
def State.exhaust (s : State) (reason : StorageReason) (b : Block) : State :=
  if s.array.exhausted then s else (s.post (.storage reason b false)).stopArray.withdraw

/-! ## The JOINING exit (R160) -/

/-- Holdings complete. -/
def State.holdingsComplete (s : State) : Bool :=
  s.repl.wants.isEmpty && stations.all fun o => !s.holds o || (s.org o).known ≤ (s.org o).held

/-- Own frontier heard: a matching beacon has been taken from every other member of D(self) that is available. -/
def State.frontierHeard (s : State) : Bool :=
  (s.designated s.self).all fun p => p == s.self || !s.available p || (s.peer p).beacon.isSome

/-- Entry to ACTIVE (R161). -/
def State.enterActive (s : State) : State := (s.enter .active).afterStateChange s.view

/-- The test for leaving JOINING (R160). -/
def State.joinExit (s : State) : State :=
  if s.ctl.state = .joining && s.holdingsComplete && s.frontierHeard then s.enterActive else s

/-! ## Starts (R150, R151) -/

/-- Every volatile structure at its start value (R25, R42, R73, R74, R103, R115, R134, R135, R164). -/
def State.startValues (s : State) : State :=
  { s with
    ctl := .start, members := .start, dir := .start, repl := .start, line := .start, engine := .start
    array := .start s.array.flash s.array.erasesLost, retire := .start, port := .start }

/-- The array operation in progress is cut short (R134). A program or configuration write has left its slot or tag torn
since its grant. -/
def State.cutOperation (s : State) : State :=
  match s.array.running with
  | some ⟨.erase b, _⟩ =>
    { s with array := { s.array with
        flash := s.array.flash.cutErase b s.array.erasesLost, erasesLost := s.array.erasesLost + 1 } }
  | _ => s

/-- A cold start (R150). -/
def State.coldStart (s : State) : State := s.cutOperation.startValues

/-- The array operation that an owner outside the arbiter's grant order begins. -/
def State.run (s : State) (op : ArrayOp) : State :=
  { s with array := { s.array with running := some ⟨op, s.now⟩ } }

/-- The array operation in progress has ended. -/
def State.endOperation (s : State) : State := { s with array := { s.array with running := none } }

/-- The start sequence begins with the configuration read (R152). -/
def State.beginStart (s : State) : State := s.run .configRead

/-- Whether the transmitter is between its START and the release of its last check bit (R92). -/
def State.transmitting (s : State) : Bool :=
  match s.line.tx with
  | .starting | .arbitrating | .sending => true
  | .quiet | .acking | .breaking => false

/-- The Transmit Queue emptied, with the transmission (R103, R112). The staging buffer is freed, but while a staging read is
running it stays held until that has ended (R109). -/
def State.clearQueue (s : State) : State :=
  { s with engine := { s.engine with queue := [], sending := none } }.giveUpStaging

/-- A warm start is taken (R151): the station is stopping; it breaks its transmission (R92), lets an ack pulse already
begun run on (R89), and abandons a window (R90). A low under way goes on into the break (R92). A second one has no further effect. -/
def State.warmStart (s : State) : State :=
  if s.ctl.stopping then s
  else
    let s := { s with ctl := { s.ctl with stopping := true }, line := { s.line with window := none } }
    if s.transmitting then
      { s with
        line := { s.line with tx := .breaking, driven := true, txSince := s.now }
        engine := { s.engine with sending := none } }
    else s.dropAck.clearQueue

end Sys2Proof.Machine
end

