-- ==== Sys2Proof/Machine/Arbiter.lean ====
section
/-! DEFINITION. The array manager's sequences and the arbiter: the steps of failure handling (R129) and reclaim (R143,
R144), the victim search (R142), the FULL flag (R146), the takeover of a mark (R148), the grant (R120, R121), and the
consequences that close every happening which can give rise to one (DESIGN CHOICE, notes/assumptions/4.md). -/

namespace Sys2Proof.Machine

/-! ## Steps of the array manager's sequences -/

/-- One step of failure handling or reclaim: one array operation (R119). -/
inductive ArrayStep where
  | read (target : ReadTarget) (loc : Loc)
  | program (item : ProgItem)
  | tag (block : Block) (reason : StorageReason)
  | erase (block : Block)
  deriving DecidableEq, Repr

/-- Whether a page still has to be programmed: its entry still refers to the buffer, or still names the slot that was
read (R124, R129). -/
def State.itemValid (s : State) (item : ProgItem) : Bool :=
  match item.owner with
  | .publish k =>
    match s.entry? k with
    | some e => e.place == .landing .publish
    | none => false
  | .landing k i =>
    match s.entry? k with
    | some e => e.place == .landing (.landing i)
    | none => false
  | .mark => s.retire.marking.isSome
  | .copy k old => s.namesSlot k old
  | .markCopy old => s.markNames old
  | .freshMark old => s.markNames old

/-- The slot a relocation copies from. -/
def ProgOwner.oldSlot : ProgOwner → Option Loc
  | .copy _ old => some old
  | .markCopy old => some old
  | .freshMark old => some old
  | .publish _ | .landing _ _ | .mark => none

/-- Whether a program of a source is running. -/
def State.programRunning (s : State) (src : Source) : Bool :=
  match s.array.running with
  | some ⟨.program src' _ _ _, _⟩ => src' == src
  | _ => false

/-- Reclaim has dealt with the slot a copy came from: its buffer is free and it goes on with the next slot (R143), 32
standing for none after slot 31 (DESIGN CHOICE, notes/assumptions/39.md). -/
def State.reclaimPast (s : State) (owner : ProgOwner) : State :=
  match owner.oldSlot with
  | some old =>
    { s with array := { s.array with
        reclaim := { s.array.reclaim with buffer := none, nextSlot := old.slot.val + 1 } } }
  | none => s

/-- The buffer of a page that is no longer to be programmed is freed by its owner's rules (R58, R49, R143). -/
def State.freeItem (s : State) (item : ProgItem) (src : Source) : State :=
  let s :=
    match item.owner with
    | .landing _ i =>
      { s.freeBuffer i with repl := { (s.freeBuffer i).repl with
          landing := { (s.freeBuffer i).repl.landing with granted := none } } }
    | .publish _ => s.finishPublish
    | .mark | .copy _ _ | .markCopy _ | .freshMark _ => s
  if src = .reclaim then s.reclaimPast item.owner else s

/-- The pending page is dropped when it is no longer to be programmed (R129). -/
def State.dropPage (s : State) : State :=
  match s.array.failure.page with
  | some (item, src) =>
    if s.itemValid item || s.programRunning .failure then s
    else
      { s with array := { s.array with failure := { s.array.failure with page := none } } }.freeItem item src
  | none => s

/-- Whether a relocation copy is failure handling's pending page: its buffer is freed when that page has been programmed
OK or dropped (R143). -/
def State.copyPending (s : State) (item : ProgItem) : Bool :=
  match s.array.failure.page with
  | some (p, _) => p.owner == item.owner
  | none => false

/-- A relocation copy whose entry has been released or moved is not made, and its buffer is freed (R124, R143). -/
def State.dropCopies (s : State) : State :=
  let s :=
    match s.array.failure.buffer with
    | some item =>
      if s.itemValid item || s.programRunning .failure then s
      else { s with array := { s.array with failure := { s.array.failure with buffer := none } } }
    | none => s
  match s.array.reclaim.buffer with
  | some item =>
    if s.itemValid item || s.programRunning .reclaim || s.copyPending item then s else s.reclaimPast item.owner
  | none => s

/-- Whether failure handling is active (R128, R129). -/
def State.failureActive (s : State) : Bool :=
  !s.array.exhausted && (s.array.failure.page.isSome || !s.array.failure.failing.isEmpty)

/-- A program step, when there is a slot for it. -/
def State.programStep (s : State) (item : ProgItem) : Option ArrayStep :=
  if s.openBlock.isSome then some (.program item) else none

/-- The request of failure handling: the pending page, then the copy that has been read, then the next live slot of the
head of the failing list, or its tag when it is empty (R129). -/
def State.failureStep (s : State) : Option ArrayStep :=
  if !s.failureActive then none
  else
    match s.array.failure.page, s.array.failure.buffer, s.array.failure.failing with
    | some (item, _), _, _ => s.programStep item
    | none, some item, _ => s.programStep item
    | none, none, b :: _ =>
      if (s.block b).live = 0 then some (.tag b .program)
      else (s.firstNamed b 0).map fun e => .read e.2 ⟨b, e.1⟩
    | none, none, [] => none

/-- The mark page that records a floor and the current P (R136). -/
def State.markImage (s : State) (f : Nat) : PageImage :=
  ⟨s.cfg.tag, s.self, f, .mark, bytes3 (s.org s.self).published⟩

/-- Whether reclaim works in the station state, and storage is not exhausted (R132, R141). -/
def State.reclaimWorks (s : State) : Bool := !s.array.exhausted && (s.storing || s.ctl.state == .mute)

/-- The request of reclaim (R143, R144, R148): the mark it holds, when there is a slot for it, before the next step of
its victim. It waits while failure handling is active (R145). -/
def State.reclaimStep (s : State) : Option ArrayStep :=
  if !s.reclaimWorks || s.failureActive then none
  else
    match s.array.reclaim.mark && s.openBlock.isSome, s.retire.marking with
    | true, some f => some (.program ⟨.mark, s.markImage f⟩)
    | _, _ =>
      match s.array.reclaim.victim, s.array.reclaim.step with
      | some v, .relocate =>
        match s.array.reclaim.buffer with
        | some item => s.programStep item
        | none => (s.firstNamed v s.array.reclaim.nextSlot).map fun e => .read e.2 ⟨v, e.1⟩
      | some v, .erase => some (.erase v)
      | some v, .retire reason => some (.tag v reason)
      | _, _ => none

/-- A relocation copy, a fresh mark or the pending page is to be programmed and there is no OPEN block (R132). -/
def State.exhaustIfNoSlot (s : State) : State :=
  if s.array.running.isNone && !s.array.exhausted && s.openBlock.isNone &&
      (s.array.failure.page.isSome || s.array.failure.buffer.isSome ||
        (s.array.reclaim.buffer.isSome && !s.failureActive)) then
    s.exhaust .noFreeBlock 0
  else s

/-! ## Reclaim's search and the FULL flag -/

/-- The CLOSED blocks that may become the victim (R142). -/
def State.victimCandidates (s : State) : List (Block × BlockRec) :=
  s.storageBlocks.filter fun e => e.2.state == .closed && !e.2.failing

/-- The one with the fewest live pages, the lowest number among equals, of blocks in ascending number. -/
def fewestLive : List (Block × BlockRec) → Option (Block × BlockRec)
  | [] => none
  | e :: r =>
    match fewestLive r with
    | some d => if e.2.live ≤ d.2.live then some e else some d
    | none => some e

/-- The victim that the search chooses (R142). -/
def State.chooseVictim (s : State) : Option Block :=
  match s.victimCandidates.find? fun e => e.2.weak with
  | some e => some e.1
  | none => (fewestLive (s.victimCandidates.filter fun e => e.2.live < e.2.used)).map (·.1)

/-- With the victim's live count at 0 the RELOCATE step ends (R143, R144). -/
def State.endRelocate (s : State) : State :=
  match s.array.reclaim.victim with
  | some v =>
    if s.array.reclaim.step = .relocate && (s.block v).live = 0 then
      { s with array := { s.array with
          reclaim := { s.array.reclaim with step := if (s.block v).weak then .retire .weak else .erase } } }
    else s
  | none => s

/-- The victim search (R142), made while reclaim is active and has no victim, and the end of RELOCATE. -/
def State.searchVictim (s : State) : State :=
  if s.reclaimWorks then
    match s.array.reclaim.victim with
    | some _ => s.endRelocate
    | none =>
      if s.freeCount < 8 then
        match s.chooseVictim with
        | some b =>
          ({ s with array := { s.array with
              reclaim := { s.array.reclaim with victim := some b, step := .relocate, nextSlot := 0 } } }.setBlock b
            fun r => { r with state := .victim }).endRelocate
        | none => s
      else s
  else s

/-- The FULL flag changes (R146, R147): FULL_CHANGE, and a new stand-in evaluation. -/
def State.setFull (s : State) (b : Bool) : State :=
  ({ s with array := { s.array with full := b } }.post (.fullChange b)).evaluate

/-- The FULL flag judged (R146). -/
def State.judgeFull (s : State) : State :=
  if s.reclaimWorks then
    if !s.array.full && s.freeCount ≤ 1 && s.array.reclaim.victim.isNone then s.setFull true
    else if s.array.full && 3 ≤ s.freeCount then s.setFull false
    else s
  else s

/-- With the FULL flag set, reclaim takes over a mark program request that is pending and ungranted (R148). -/
def State.takeOverMark (s : State) : State :=
  if s.array.full && s.retire.requested && s.reclaimWorks then
    { s with
      retire := { s.retire with requested := false }
      array := { s.array with reclaim := { s.array.reclaim with mark := true } } }
  else s

/-! ## Requests of the other sources -/

/-- The run that the asking gathers, from wants of one kind in key order: the lowest key and those of its origin whose
seqs follow on (R61). -/
def runLength (o : Station) : Nat → List Want → Nat
  | _, [] => 0
  | q, w :: ws => if w.key = ⟨o, q⟩ then runLength o (q + 1) ws + 1 else 0

/-- A STALLED entry whose next-ask time has passed (R63). -/
def Want.due (w : Want) (now : Nat) : Bool :=
  w.state == .stalled &&
    match w.next with
    | some t => t ≤ now
    | none => false

/-- The run to be asked: of IDLE entries, or else of due STALLED entries (R61, R63). -/
def State.gatherRun (s : State) : Option (Station × Nat × Nat) :=
  let run (ws : List Want) : Option (Station × Nat × Nat) :=
    match ws with
    | [] => none
    | w :: _ => some (w.key.origin, w.key.seq, min 8 (runLength w.key.origin w.key.seq ws))
  (run (s.repl.wants.filter fun w => w.state == .idle)).or (run (s.repl.wants.filter fun w => w.due s.now))

/-- Whether a key lies in a WANT's range. -/
def inRange (o : Station) (first count : Nat) (k : Key) : Bool :=
  k.origin == o && first ≤ k.seq && k.seq < first + count

/-- The asking of the Want List (R61): with no WANT of its own queued, a run is gathered, placed, or joined to an
identical WANT, which has an owner then (notes/assumptions/33.md), and its IDLE entries become ASKED. -/
def State.askWants (s : State) : State :=
  if (s.ctl.state = .joining || s.ctl.state = .active) && !s.engine.queue.any (·.byWants) then
    match s.gatherRun with
    | none => s
    | some (o, first, count) =>
      let t : TxTarget := .want o first count
      let s :=
        match s.tx? t with
        | some _ => s.setTx t fun e => { e with byWants := true, cancelled := false }
        | none => s.place { s.newTx t s.now with byWants := true }
      let ask (w : Want) : Want :=
        if inRange o first count w.key && w.state == .idle then { w with state := .asked, next := none } else w
      { s with repl := { s.repl with wants := s.repl.wants.map ask } }
  else s

/-- An ask that the fetch holds is placed once the WANT of the earlier fetch has left the queue (R106). -/
def State.placeHeldAsk (s : State) : State :=
  match s.repl.fetch with
  | some f => if f.held && !s.engine.queue.any (·.byFetch) then s.askFetch f else s
  | none => s

/-- The unstaged REPAIR to be staged next: the earliest insertion, then the lowest key (R109). -/
def nextUnstaged : List TxEntry → Option (Key × Nat)
  | [] => none
  | e :: r =>
    match e.target with
    | .repair k =>
      if e.staged || e.cancelled then nextUnstaged r
      else
        match nextUnstaged r with
        | some (k', t') =>
          if e.inserted < t' || (e.inserted == t' && k.le k') then some (k, e.inserted) else some (k', t')
        | none => some (k, e.inserted)
    | .beacon | .page _ | .want _ _ _ => nextUnstaged r

/-- While the staging buffer is free and an unstaged REPAIR is queued, a staging read is requested (R109). -/
def State.stageNext (s : State) : State :=
  match s.engine.staging, nextUnstaged s.engine.queue with
  | none, some (k, _) => { s with engine := { s.engine with staging := some ⟨k, .requested, [], false⟩ } }
  | _, _ => s

/-- The Landing Queue keeps one program request for its head (R57, R58). -/
def State.requestLanding (s : State) : State :=
  let l := s.repl.landing
  if !l.queue.isEmpty && l.granted.isNone then
    { s with repl := { s.repl with landing := { l with requested := true } } }
  else s

/-! ## Grant (R120) -/

/-- Grant a page read. -/
def State.grantRead (s : State) (src : Source) (t : ReadTarget) (l : Loc) : State := s.run (.read src t l)

/-- Grant a page program (R116, R118): into the slot that the OPEN block's used count names, with the next stamp. The
slot is programmed from now on, and torn until the program ends. -/
def State.grantProgram (s : State) (src : Source) (item : ProgItem) : State :=
  match s.openBlock with
  | some b =>
    let l : Loc := ⟨b, Fin.ofNat 32 (s.block b).used⟩
    let t := s.array.nextStamp
    let s := (s.setBlock b fun r => { r with used := r.used + 1 }).putSlot l .torn
    { s with array := { s.array with nextStamp := t + 1 } }.run (.program src item l t)
  | none => s

/-- Grant a tag program (R118, R131). -/
def State.grantTag (s : State) (src : Source) (b : Block) (reason : StorageReason) : State :=
  let t := s.array.nextStamp
  { s.putTag b .torn with array := { (s.putTag b .torn).array with nextStamp := t + 1 } }.run (.tag src b reason t)

/-- The page of a request as it stands at the grant: a fresh mark takes F[self] and P at that moment (R139). -/
def State.itemAtGrant (s : State) (item : ProgItem) : ProgItem :=
  match item.owner with
  | .freshMark _ => { item with image := s.markImage (s.org s.self).floor }
  | .publish _ | .landing _ _ | .mark | .copy _ _ | .markCopy _ => item

/-- Grant a step of failure handling or reclaim. The pending page keeps the data it has (R137). -/
def State.grantStep (s : State) (src : Source) (st : ArrayStep) : State :=
  match st with
  | .read t l => s.grantRead src t l
  | .program item =>
    s.grantProgram src (if src = .failure && s.array.failure.page.isSome then item else s.itemAtGrant item)
  | .tag b reason => s.grantTag src b reason
  | .erase b => s.run (.erase b)

/-- The slot that the entry of a key names, at the grant of a read that names the key (R122). -/
def State.liveLoc (s : State) (k : Key) : Option Loc :=
  match s.lookup k with
  | .live _ l _ => some l
  | .belowFloor _ | .landing _ _ | .absent _ => none

/-- The pending staging read, with its slot. -/
def State.stagingRead (s : State) : Option (Staging × Loc) :=
  match s.engine.staging with
  | some b => if b.phase = .requested then (s.liveLoc b.key).map fun l => (b, l) else none
  | none => none

/-- The pending host read, with its slot. -/
def State.hostRead (s : State) : Option (Key × Loc) :=
  match s.port.readKey with
  | some k => if s.port.readRequested then (s.liveLoc k).map fun l => (k, l) else none
  | none => none

/-- The page of the pending publish program. -/
def State.publishItem (s : State) : Option ProgItem :=
  match s.repl.publish.buffer with
  | some payload =>
    if s.repl.publish.requested then
      some ⟨.publish s.publishKey, ⟨s.cfg.tag, s.self, s.repl.publish.seq, .self, payload⟩⟩
    else none
  | none => none

/-- The page of the pending landing program, with its buffer. -/
def State.landingItem (s : State) : Option (Fin 4 × ProgItem) :=
  match s.repl.landing.queue with
  | i :: _ =>
    match s.repl.landing.buffers.get i with
    | some p =>
      if s.repl.landing.requested then
        some (i, ⟨.landing p.key i, ⟨s.cfg.tag, p.key.origin, p.key.seq, p.role, p.payload⟩⟩)
      else none
    | none => none
  | [] => none

/-- The page of the pending mark program, its floor and P taken at the grant (R136). -/
def State.markItem (s : State) : Option ProgItem :=
  match s.retire.marking with
  | some f => if s.retire.requested then some ⟨.mark, s.markImage f⟩ else none
  | none => none

/-- Whether publish, landing and mark programs are eligible: not held by the relocation reserve (R121), storage not
exhausted (R120), and a slot to program. -/
def State.programsEligible (s : State) : Bool :=
  !s.array.exhausted && 2 ≤ s.freeCount && s.openBlock.isSome

/-- What the arbiter grants. -/
inductive Grant where
  | step (source : Source) (st : ArrayStep)
  | staging (buffer : Staging) (loc : Loc)
  | host (k : Key) (loc : Loc)
  | publish (item : ProgItem)
  | landing (i : Fin 4) (item : ProgItem)
  | mark (item : ProgItem)
  deriving DecidableEq, Repr

/-- The first pending program of sources 5 to 7, when programs are eligible (R120, R121). -/
def State.choosePrograms (s : State) : Option Grant :=
  if s.programsEligible then
    (s.publishItem.map .publish).or ((s.landingItem.map fun e => .landing e.1 e.2).or (s.markItem.map .mark))
  else none

/-- The first eligible request of sources 3 to 8 (R120). -/
def State.chooseLater (s : State) : Option Grant :=
  (s.stagingRead.map fun e => .staging e.1 e.2).or
    ((s.hostRead.map fun e => .host e.1 e.2).or (s.choosePrograms.or (s.reclaimStep.map (.step .reclaim))))

/-- The first eligible request in grant order (R120). -/
def State.choose (s : State) : Option Grant :=
  (s.failureStep.map (.step .failure)).or
    ((if s.freeCount ≤ 2 then s.reclaimStep.map (.step .reclaim) else none).or s.chooseLater)

/-- A request is granted: its operation begins. -/
def State.perform (s : State) (g : Grant) : State :=
  match g with
  | .step src st => s.grantStep src st
  | .staging b l =>
    { s with engine := { s.engine with staging := some { b with phase := .reading } } }.grantRead .staging (.page b.key) l
  | .host k l => { s with port := { s.port with readRequested := false } }.grantRead .host (.page k) l
  | .publish item => (s.setPublish fun p => { p with requested := false }).grantProgram .publish item
  | .landing i item =>
    { s with repl := { s.repl with
        landing := { s.repl.landing with requested := false, granted := some i } } }.grantProgram .landing item
  | .mark item => { s with retire := { s.retire with requested := false } }.grantProgram .mark item

/-- The arbiter's grant (R120): while the array is free, the first eligible pending request in grant order. -/
def State.grant (s : State) : State :=
  match s.array.running, s.choose with
  | none, some g => s.perform g
  | _, _ => s

/-! ## The end of a happening -/

/-- The array manager's consequences: stale copies dropped, exhaustion, the search, the FULL flag and the takeover. -/
def State.settleArray (s : State) : State :=
  s.dropPage.dropCopies.exhaustIfNoSlot.searchVictim.judgeFull.searchVictim.takeOverMark.dropPage.dropCopies

/-- The requests that the queues of the replication engine and the frame engine place. -/
def State.settleQueues (s : State) : State := s.placeHeldAsk.askWants.stageNext.requestLanding

/-- What follows within one happening from what it has changed: the array manager's consequences, the requests, the
JOINING exit and the grant (DESIGN CHOICE, notes/assumptions/4.md). Nothing follows while the station is stopping or scanning. -/
def State.settle (s : State) : State :=
  if s.awake && s.running then s.settleArray.settleQueues.joinExit.grant else s

end Sys2Proof.Machine
end

