-- ==== Sys2Proof/Machine/ArraySteps.lean ====
section
/-! DEFINITION. The ends of the arbiter's operations: page read (R123), page program (R124, R128), tag program (R131) and
erase (R126). In a station that is stopping only the flash keeps what the operation did (R151, R134). -/

namespace Sys2Proof.Machine

/-! ## Page read (R123) -/

/-- Whether the header read is that of the entry the read names (R123): its origin and seq, and its payload length while
the entry still names the slot; for the mark, its role. -/
def State.headerFits (s : State) (t : ReadTarget) (l : Loc) (h : PageHeader) : Bool :=
  match t with
  | .mark => h.role == .mark
  | .page k =>
    h.origin == k.origin && h.seq == k.seq &&
      match s.entry? k with
      | some e => !s.namesSlot k l || e.length == h.length
      | none => true

/-- What a page read delivers; none when it is UNCORRECTABLE (R123). -/
def State.readResult (s : State) (t : ReadTarget) (l : Loc) (errors : Nat) : Option (PageHeader × List Byte) :=
  match s.pageAt l errors with
  | some (h, data) => if s.headerFits t l h then some (h, data) else none
  | none => none

/-- The weak mark after a read (R125). -/
def State.markWeak (s : State) (l : Loc) (bad : Bool) : State :=
  if bad then s.setBlock l.block fun b => { b with weak := true } else s

/-- A staging read has ended (R66, R109): the REPAIR is staged, or removed when its page could not be read; a result
whose entry has left is discarded. -/
def State.stagingDone (s : State) (k : Key) (r : Option (PageHeader × List Byte)) : State :=
  match s.engine.staging with
  | some b =>
    match b.dropped, r with
    | true, _ => { s with engine := { s.engine with staging := none } }
    | false, none => { s with engine := { s.engine with staging := none } }.removeTx (.repair k)
    | false, some (_, data) =>
      { s with engine := { s.engine with staging := some { b with phase := .staged, payload := data } } }.setTx (.repair k)
        fun e => { e with staged := true }
  | none => s

/-- A host read whose key was released while it ran (R175). -/
def State.hostReleased (s : State) (k : Key) : State :=
  if k.seq < (s.org k.origin).floor then s.completeRead k .retired [] else s.beginFetch k

/-- The read buffer of a sequence: a copy has been read into it (R124). -/
def State.fillCopy (s : State) (src : Source) (item : ProgItem) : State :=
  if s.array.exhausted then s
  else if src = .failure then
    { s with array := { s.array with failure := { s.array.failure with buffer := some item } } }
  else { s with array := { s.array with reclaim := { s.array.reclaim with buffer := some item } } }

/-- A sequence has dealt with a slot without a copy: reclaim goes on with the next slot (R143). -/
def State.passSlot (s : State) (src : Source) (l : Loc) : State :=
  if src = .reclaim then
    { s with array := { s.array with reclaim := { s.array.reclaim with nextSlot := l.slot.val + 1 } } }
  else s

/-- The copy that a relocation read makes (R124): the same header fields and payload. -/
def copyOf (t : ReadTarget) (l : Loc) (h : PageHeader) (data : List Byte) : ProgItem :=
  { owner :=
      match t with
      | .page k => .copy k l
      | .mark => .markCopy l
    image := ⟨h.tag, h.origin, h.seq, h.role, data⟩ }

/-- A relocation read has ended: a copy is to be programmed while the slot is still named, a fresh mark when the mark
could not be read (R129, R139, R143). -/
def State.relocationRead (s : State) (src : Source) (t : ReadTarget) (l : Loc) (r : Option (PageHeader × List Byte)) :
    State :=
  match r, t with
  | some (h, data), _ =>
    let item := copyOf t l h data
    if s.itemValid item then s.fillCopy src item else s.passSlot src l
  | none, .mark =>
    if s.markNames l then s.fillCopy src ⟨.freshMark l, s.markImage (s.org s.self).floor⟩ else s.passSlot src l
  | none, .page _ => s.passSlot src l

/-- The loss of a page that could not be read (R24); the mark entry is not released (R139). -/
def State.readLoss (s : State) (t : ReadTarget) (l : Loc) (r : Option (PageHeader × List Byte)) : State :=
  match r, t with
  | none, .page k => s.pageLost k l
  | none, .mark | some _, _ => s

/-- A host read has ended (R175). -/
def State.hostReadDone (s : State) (k : Key) (l : Loc) (r : Option (PageHeader × List Byte)) : State :=
  if s.namesSlot k l then
    match r with
    | some (_, data) => s.completeRead k .ok data
    | none => (s.pageLost k l).beginFetch k
  else s.hostReleased k

/-- The end of a page read: the weak mark, the directory's report, then the source (R123). -/
def State.readDone (s : State) (src : Source) (t : ReadTarget) (l : Loc) (errors : Nat) : State :=
  let r := s.readResult t l errors
  let s := s.markWeak l (3 ≤ errors || r.isNone)
  match src, t with
  | .host, .page k => s.hostReadDone k l r
  | .staging, .page k => (s.readLoss t l r).stagingDone k r
  | .failure, _ | .reclaim, _ => (s.readLoss t l r).relocationRead src t l r
  | .host, .mark | .staging, .mark | .publish, _ | .landing, _ | .mark, _ => s

/-- A read ends while the station is stopping: its result is discarded (R134, R151), and a staging read frees the staging
buffer (R109), also where its entry is still queued behind a break (DESIGN CHOICE, notes/assumptions/17.md). -/
def State.discardRead (s : State) (src : Source) : State :=
  if src = .staging then { s with engine := { s.engine with staging := none } } else s

/-- PAGE_READ_END (R123). -/
def execPageReadEnd (errors : Nat) (s : State) : Host.Outcome State Fault Refusal :=
  .next
    (match s.array.running with
    | some ⟨.read src t l, started⟩ =>
      if s.resetLow then s
      else
        let s := (s.reach (started + us 50)).endOperation
        if s.ctl.stopping then s.discardRead src else (s.readDone src t l errors).settle
    | _ => s)

/-! ## Page program (R124, R128) -/

/-- After slot 31 the OPEN block is CLOSED, and the next one is opened (R116). -/
def State.closeFull (s : State) (b : Block) : State :=
  if 32 ≤ (s.block b).used then (s.setBlock b fun r => { r with state := .closed }).openNext else s

/-- Whether the entry of a key still refers to a buffer (R18). -/
def State.inBuffer (s : State) (k : Key) (b : BufRef) : Bool :=
  match s.entry? k with
  | some e => e.place == .landing b
  | none => false

/-- A LANDING entry becomes LIVE (R18). -/
def State.goLive (s : State) (k : Key) (b : BufRef) (l : Loc) (stamp : Nat) : State :=
  if s.inBuffer k b then (s.setEntry k fun e => { e with place := .live l stamp }).addLive l.block else s

/-- The Landing Queue is told of its page's success (R57, R58): the page leaves the queue and its buffer is free. -/
def State.landed (s : State) (i : Fin 4) : State :=
  { s.freeBuffer i with repl := { (s.freeBuffer i).repl with
      landing := { (s.freeBuffer i).repl.landing with queue := s.repl.landing.queue.erase i, granted := none } } }

/-- The retirement is told of its mark's success (R137). -/
def State.retired (s : State) : State :=
  match s.retire.marking with
  | some f => { (s.tellFloor s.self f).post (.retiredDone f true) with retire := .start }
  | none => s

/-- The report of a program that ended OK: to the directory, and then to the owner of the page (R18 to R20, R124). -/
def State.reportProgram (s : State) (owner : ProgOwner) (l : Loc) (stamp : Nat) : State :=
  match owner with
  | .publish k => (s.goLive k .publish l stamp).publishProgrammed.finishPublish
  | .landing k i => (s.goLive k (.landing i) l stamp).landed i
  | .mark => (s.moveMark l stamp).retired
  | .copy k old => if s.namesSlot k old then s.moveEntry k old l stamp else s
  | .markCopy old | .freshMark old => if s.markNames old then s.moveMark l stamp else s

/-- Failure handling's own part of a success: the pending page has been programmed, with the part of the sequence whose
program of it failed first; or its copy has been made (R129). -/
def State.failureProgrammed (s : State) (owner : ProgOwner) : State :=
  match s.array.failure.page with
  | some (_, first) =>
    let s := { s with array := { s.array with failure := { s.array.failure with page := none } } }
    if first = .reclaim then s.reclaimPast owner else s
  | none => { s with array := { s.array with failure := { s.array.failure with buffer := none } } }

/-- The sequence whose step the program was goes on (R129, R143, R148). -/
def State.sequenceProgrammed (s : State) (src : Source) (owner : ProgOwner) : State :=
  match src with
  | .failure => s.failureProgrammed owner
  | .reclaim =>
    match owner with
    | .mark => { s with array := { s.array with reclaim := { s.array.reclaim with mark := false } } }
    | .publish _ | .landing _ _ | .copy _ _ | .markCopy _ | .freshMark _ => s.reclaimPast owner
  | .staging | .host | .publish | .landing | .mark => s

/-- The stamp FFFFFFFFh has been drawn by the operation that has ended (R118, R132): storage is exhausted in the same
happening, before reclaim and the FULL flag judge what it changed (DESIGN CHOICE, notes/assumptions/38.md). -/
def State.stampCheck (s : State) (stamp : Nat) : State := if stampMax ≤ stamp then s.exhaust .stamp 0 else s

/-- A page program has ended OK (R124). -/
def State.programOk (s : State) (src : Source) (item : ProgItem) (l : Loc) (stamp : Nat) : State :=
  (((s.closeFull l.block).sequenceProgrammed src item.owner).reportProgram item.owner l stamp).stampCheck stamp

/-- The pending page after a failed program: with the source whose program failed first (R128, R130). -/
def State.pendPage (s : State) (src : Source) (item : ProgItem) : State :=
  let first :=
    match s.array.failure.page with
    | some (_, f) => f
    | none => src
  let f := s.array.failure
  { s with array := { s.array with
      failure := { f with page := some (item, first), buffer := if src = .failure && f.page.isNone then none else f.buffer }
      reclaim := { s.array.reclaim with
        mark := s.array.reclaim.mark && !(src == .reclaim && item.owner == .mark) } } }

/-- A page program has ended FAIL (R128): the block is CLOSED and failing, the page pending, and the next block opened. With
the stamp FFFFFFFFh and no block to open the reason is STAMP (DESIGN CHOICE, notes/assumptions/37.md). -/
def State.programFail (s : State) (src : Source) (item : ProgItem) (l : Loc) (stamp : Nat) : State :=
  let s := (s.setBlock l.block fun r => { r with state := .closed, failing := true }).pendPage src item
  let s := { s with array := { s.array with
      failure := { s.array.failure with failing := s.array.failure.failing ++ [l.block] } } }
  s.openNext.stampCheck stamp

/-- The slot that a program has written: its page, or for a program that failed what it was, INVALID
(DEDUCED, notes/assumptions/11.md). -/
def State.slotProgrammed (s : State) (item : ProgItem) (l : Loc) (stamp : Nat) (ok : Bool) : State :=
  if ok then s.putSlot l (.written (item.image.header stamp).encode item.image.payload) else s

/-- PAGE_PROGRAM_END (R124, R128). -/
def execPageProgramEnd (ok : Bool) (s : State) : Host.Outcome State Fault Refusal :=
  .next
    (match s.array.running with
    | some ⟨.program src item l stamp, _⟩ =>
      if s.resetLow then s
      else
        let s := s.endOperation.slotProgrammed item l stamp ok
        if s.ctl.stopping then s
        else if ok then (s.programOk src item l stamp).settle
        else (s.programFail src item l stamp).settle
    | _ => s)

/-! ## Tag program (R131) -/

/-- The sequence that retired a block goes on (R129, R144). -/
def State.sequenceRetired (s : State) (src : Source) (b : Block) : State :=
  if src = .failure then
    { s with array := { s.array with
        failure := { s.array.failure with failing := s.array.failure.failing.erase b } } }
  else { s with array := { s.array with
      reclaim := { s.array.reclaim with victim := none, step := .search, nextSlot := 0 } } }

/-- A block is retired (R131): BAD, its record in the table while there is room, STORAGE posted. A full table exhausts
storage (R132), with reason TABLE_FULL also where the tag drew the stamp FFFFFFFFh (DESIGN CHOICE,
notes/assumptions/37.md). -/
def State.retireBlock (s : State) (src : Source) (b : Block) (reason : StorageReason) (stamp : Nat) : State :=
  let s := s.setBlock b fun r => { r with state := .bad, failing := false }
  let room : Bool := s.array.badTable.length < 32
  let s := if room then { s with array := { s.array with badTable := s.array.badTable ++ [b] } } else s
  let s := (s.sequenceRetired src b).post (.storage reason b room)
  (if room then s else s.exhaust .tableFull b).stampCheck stamp

/-- The tag that a tag program has written; one that failed stays INVALID (R155). -/
def State.tagProgrammed (s : State) (b : Block) (reason : StorageReason) (stamp : Nat) (ok : Bool) : State :=
  if ok then s.putTag b (.written (encodeRetired reason stamp) []) else s

/-- TAG_PROGRAM_END (R131): the outcome is not used but for what the tag then reads as. -/
def execTagProgramEnd (ok : Bool) (s : State) : Host.Outcome State Fault Refusal :=
  .next
    (match s.array.running with
    | some ⟨.tag src b reason stamp, _⟩ =>
      if s.resetLow then s
      else
        let s := s.endOperation.tagProgrammed b reason stamp ok
        if s.ctl.stopping then s else (s.retireBlock src b reason stamp).settle
    | _ => s)

/-! ## Erase (R126) -/

/-- What an erase leaves in the flash: the block blank, or after a failure what the open values of Config say. -/
def State.blockErased (s : State) (b : Block) (ok : Bool) : State :=
  if ok then { s with array := { s.array with flash := s.array.flash.erase b } }
  else { s with array := { s.array with
      flash := s.array.flash.failedErase b s.array.erasesLost, erasesLost := s.array.erasesLost + 1 } }

/-- An erase has ended OK: the block is FREE, at the tail of the list, and reclaim's cycle is over (R126, R144). -/
def State.eraseOk (s : State) (b : Block) : State :=
  let s := s.setBlock b fun _ => ⟨.free, 0, 0, false, false⟩
  { s with array := { s.array with
      freeList := s.array.freeList ++ [b]
      reclaim := { s.array.reclaim with victim := none, step := .search, nextSlot := 0 } } }.openNext

/-- An erase has ended FAIL: the block is to be retired (R126, R144). -/
def State.eraseFail (s : State) : State :=
  { s with array := { s.array with reclaim := { s.array.reclaim with step := .retire .erase } } }

/-- ERASE_END (R126). -/
def execEraseEnd (ok : Bool) (s : State) : Host.Outcome State Fault Refusal :=
  .next
    (match s.array.running with
    | some ⟨.erase b, _⟩ =>
      if s.resetLow then s
      else
        let s := s.endOperation.blockErased b ok
        if s.ctl.stopping then s else if ok then (s.eraseOk b).settle else s.eraseFail.settle
    | _ => s)

end Sys2Proof.Machine
end

