-- ==== Sys2Proof/Machine/Frames.lean ====
section
/-! DEFINITION. What the station makes of a valid frame: the membership table (R28 to R36), the acceptance of a PAGE
(R53 to R55), the answer to a WANT (R65) and the receipt of a REPAIR (R67, R68). And the frames it builds itself (R39,
R40, R107, R108). -/

namespace Sys2Proof.Machine

/-! ## Frames as built -/

/-- The H list of the own beacon: the own origin, then the DESIGNATED origins in ascending number (R40). -/
def State.heldItems (s : State) : List (Station × Nat) :=
  (s.self :: stations.filter fun o => o != s.self && (s.org o).role == .designated).map fun o => (o, (s.org o).held)

/-- What the own beacon would carry if it were built now (R27, R39). -/
def State.ownBeacon (s : State) : BeaconRec :=
  { withdrawn := s.ctl.state == .withdrawn, full := s.array.full, joining := s.ctl.state == .joining
    published := (s.org s.self).published, floor := (s.org s.self).floor, items := s.heldItems }

/-- The body of the frame for an entry, from the values of the start moment (R108). -/
def State.frameBody (s : State) (t : TxTarget) : List Byte :=
  match t with
  | .beacon => beaconBody s.cfg.factor s.cfg.roster s.ownBeacon
  | .want o first count => wantBody o first count
  | .repair k =>
    pageBody k
      (match s.engine.staging with
      | some b => b.payload
      | none => [])
  | .page k => pageBody k (s.repl.publish.buffer.getD [])

/-- All bits of the frame for an entry after its START (R108). -/
def State.buildFrame (s : State) (t : TxTarget) : List Bool :=
  frameBits (targetKind t) s.self s.cfg.tag (s.frameBody t)

/-- Whether an entry is ready (R107). -/
def TxEntry.ready (e : TxEntry) (now : Nat) : Bool :=
  e.earliest ≤ now && !e.cancelled &&
    match e.target with
    | .page _ | .repair _ => e.staged
    | .beacon | .want _ _ _ => true

/-- The entry that the frame engine offers: the first ready one in queue order (R107). -/
def State.offer (s : State) : Option TxEntry := s.engine.queue.find? fun e => e.ready s.now

/-- The frame engine's state (R102), as it follows from the transmitter, the transmission, the ack window, the receiver
and the queue. After a disturbance of the START itself the receiver assembles no frame yet, and the state is WAITING; while
a warm start's break is sent, which no row of the table names, it follows from the receiver and the queue (DESIGN CHOICE,
notes/assumptions/32.md). -/
def State.engineState (s : State) : EngineState :=
  match s.line.tx with
  | .starting | .arbitrating => .contending
  | .sending => .sending
  | .quiet | .acking | .breaking =>
    if s.engine.sending.isSome then .sending
    else
      match s.line.window with
      | some w => if w.mine then .ackWindow else if s.engine.queue.isEmpty then .idle else .waiting
      | none =>
        if s.line.receiver = .receiving then .receiving else if s.engine.queue.isEmpty then .idle else .waiting

/-! ## PAGE (section 3.2) -/

/-- The fate of a PAGE (R53). -/
inductive PageFate where
  | ignored | alreadyHeld | refused
  | stored (buffer : Fin 4)
  deriving DecidableEq, Repr

/-- The fate of a PAGE for a key (R53). -/
def State.pageFate (s : State) (k : Key) : PageFate :=
  let r := s.org k.origin
  if !s.storing || r.role == .none || k.seq < r.floor || s.array.full then .ignored
  else if (s.entry? k).isSome then .alreadyHeld
  else
    match s.freeBuffer? with
    | none => .refused
    | some i => .stored i

/-- The ack slot of the station for an origin, by its role and rank at the delivery (R55). -/
def State.ackSlot (s : State) (o : Station) : Nat :=
  if (s.org o).role = .standin then s.cfg.factor - 1 + (s.org o).rank else s.designatedRank o

/-- Hand an ack slot to the line interface, in JOINING and ACTIVE with R of 2 or more (R55, R89). -/
def State.acknowledge (s : State) (o : Station) : State :=
  if (s.ctl.state = .joining || s.ctl.state = .active) && 2 ≤ s.cfg.factor then
    { s with line := { s.line with pendingAck := some (s.ackSlot o), tx := .acking } }
  else s

/-- A PAGE taken (R53 to R55). -/
def State.takePage (s : State) (k : Key) (payload : List Byte) : State :=
  let s := s.tellKnown k.origin k.seq
  match s.pageFate k with
  | .ignored | .refused => s
  | .alreadyHeld => s.acknowledge k.origin
  | .stored i => (s.land i k payload).acknowledge k.origin

/-! ## WANT (section 3.5) -/

/-- The answer rank by the role of a LIVE entry (R65). -/
def State.answerRank (s : State) (e : Entry) : Nat :=
  match e.role with
  | .designated => s.designatedRank e.key.origin
  | .standin => 2 * s.cfg.factor - 1
  | .self | .none | .mark => 0

/-- The answers for so many keys from a seq on, `gap` being the start of the WANT's end gap (R65, R104). -/
def State.answerKeys (s : State) (o : Station) (gap : Nat) : Nat → Nat → State
  | 0, _ => s
  | n + 1, q =>
    if seqMax < q then s
    else
      match s.lookup ⟨o, q⟩ with
      | .live e _ _ =>
        if (s.tx? (.repair ⟨o, q⟩)).isSome then s.answerKeys o gap n (q + 1)
        else if 4 ≤ s.txCount .repair then s
        else
          (s.place (s.newTx (.repair ⟨o, q⟩) (gap + s.units (24 * s.answerRank e)))).answerKeys o gap n (q + 1)
      | .belowFloor _ | .landing _ _ | .absent _ => s.answerKeys o gap n (q + 1)

/-- A WANT taken (R65). -/
def State.takeWant (s : State) (o : Station) (first count gap : Nat) : State :=
  if s.mayDrive then s.answerKeys o gap count first else s

/-! ## REPAIR (section 3.6) -/

/-- An own REPAIR for the key that is not in transmission is suppressed (R67). -/
def State.suppress (s : State) (k : Key) : State :=
  if s.inTransmission (.repair k) then s else s.cancelTx (.repair k)

/-- The want test for a REPAIR (R68). -/
def State.fillWant (s : State) (k : Key) (payload : List Byte) : State :=
  if (s.repl.wants.any fun w => w.key == k) && s.storing && !s.array.full then
    match s.freeBuffer? with
    | some i => s.land i k payload
    | none => s
  else s

/-- The fetch test for a REPAIR (R68). -/
def State.fillFetch (s : State) (k : Key) (payload : List Byte) : State :=
  match s.repl.fetch with
  | some f => if f.key = k then s.endFetch .ok payload else s
  | none => s

/-- A REPAIR taken (R67, R68). -/
def State.takeRepair (s : State) (k : Key) (payload : List Byte) : State :=
  (((s.tellKnown k.origin k.seq).suppress k).fillWant k payload).fillFetch k payload

/-! ## The membership table -/

/-- PEER_CHANGE for a peer, with its state and its availability as it stands (R30). -/
def State.postPeer (s : State) (p : Station) : State := s.post (.peerChange p (s.peer p).state (s.peerAvailable p))

/-- The release checks of the records whose mask holds a station (R35, step 5; R72). -/
def State.checkFor (s : State) (p : Station) : State :=
  stations.foldl (fun s o => if inMask (s.standin o).mask p then s.releaseCheck o else s) s

/-- A matching beacon's contents handed on (R35). `before` is the view of the group before the happening. -/
def State.handOn (s : State) (p : Station) (b : BeaconRec) (before : BitVec 16) : State :=
  let s := (s.tellFloor p b.floor).tellKnown p b.published
  let s := b.items.foldl (fun s i => s.tellKnown i.1 i.2) s
  (s.report before).checkFor p

/-- A matching beacon taken (R30, R33, R34). Its PEER_CHANGE stands before the notices of the steps of R35, also where only
the availability changes (DESIGN CHOICE, notes/assumptions/35.md). -/
def State.takeMatching (s : State) (p : Station) (b : BeaconRec) : State :=
  let before := s.view
  let old := (s.peer p).state
  let was := s.peerAvailable p
  let b := { b with items := b.items.filter fun i => s.inRoster i.1 }
  let s := s.setPeer p fun e => { e with state := .live, lastHeard := some s.now, beacon := some b }
  let s := if old ≠ .live || s.peerAvailable p ≠ was then s.postPeer p else s
  s.handOn p b before

/-- A mismatching beacon taken (R33). -/
def State.takeMismatching (s : State) (p : Station) (factor roster : Bool) : State :=
  let before := s.view
  let old := (s.peer p).state
  let s := s.setPeer p fun e => { e with state := .excluded, lastHeard := some s.now, beacon := none }
  let s := if old = .excluded then s else (s.post (.configMismatch p factor roster)).postPeer p
  s.report before

/-- A frame other than a beacon taken from a peer that is not EXCLUDED (R30). -/
def State.heardFrom (s : State) (p : Station) : State :=
  let before := s.view
  let old := (s.peer p).state
  let s := s.setPeer p fun e => { e with state := .live, lastHeard := some s.now }
  let s := if old = .live then s else s.postPeer p
  s.report before

/-- A frame other than a beacon from an EXCLUDED peer (R30, R31). -/
def State.heardExcluded (s : State) (p : Station) : State := s.setPeer p fun e => { e with lastHeard := some s.now }

/-- A frame with the station's own number (R29). -/
def State.takeDuplicate (s : State) (kind : FrameKind) : State :=
  if s.ctl.state = .mute then s else (s.post (.duplicateId kind.value)).enterMute

/-- A valid frame passes to the block that consumes its kind (R31); `gap` is the start of its end gap. -/
def State.consume (s : State) (m : Message) (gap : Nat) : State :=
  match m with
  | .page _ k payload => s.takePage k payload
  | .repair _ k payload => s.takeRepair k payload
  | .want _ o first count => s.takeWant o first count gap
  | .beacon _ _ _ _ => s

/-- A valid frame from a roster peer (R30 to R35). -/
def State.takeFromPeer (s : State) (m : Message) (gap : Nat) : State :=
  match m with
  | .beacon p factor roster b =>
    if factor = s.cfg.factor && roster = s.cfg.roster then s.takeMatching p b
    else s.takeMismatching p (factor != s.cfg.factor) (roster != s.cfg.roster)
  | .page p _ _ | .repair p _ _ | .want p _ _ _ =>
    if (s.peer p).state = .excluded then s.heardExcluded p else (s.heardFrom p).consume m gap

/-- The membership table takes a delivered frame (R28). -/
def State.takeFrame (s : State) (m : Message) (gap : Nat) : State :=
  if !s.running || s.ctl.stopping then s
  else if m.sender = s.self then s.takeDuplicate m.kind
  else s.takeFromPeer m gap

end Sys2Proof.Machine
end

