-- ==== Sys2Proof/Machine/Starts.lean ====
section
/-! DEFINITION. The commands of the starts and the configuration record (sections 8.2 and 8.3, R178). Every meaning of
this family and the others answers a next state. A happening that cannot come in a state changes nothing there
(DESIGN CHOICE, notes/assumptions/7.md); while RESET is low none but POWER_ON, RESET_LOW and RESET_RISE does anything (R150). -/

namespace Sys2Proof.Machine

/-! ## The two kinds of start -/

/-- POWER_ON (R150): a cold start, and the start sequence begins. RESET is high (DESIGN CHOICE, notes/assumptions/8.md). -/
def execPowerOn (s : State) : Host.Outcome State Fault Refusal :=
  .next { s.coldStart with resetLow := false }.beginStart

/-- RESET_LOW (R150): RESET has been low for 10 µs, and a cold start is taken; the start sequence waits. -/
def execResetLow (s : State) : Host.Outcome State Fault Refusal :=
  .next { (s.reach (s.now + us 10)).coldStart with resetLow := true }

/-- RESET_RISE (R150): the start sequence begins. -/
def execResetRise (s : State) : Host.Outcome State Fault Refusal :=
  .next (if s.resetLow then { s with resetLow := false }.beginStart else s)

/-- Whether the three things that a warm start finishes have ended: the break, an ack pulse already begun, and the array
operation (R151). -/
def State.stoppingDone (s : State) : Bool :=
  s.ctl.stopping && s.line.tx != .breaking && !s.line.driven && s.array.running.isNone

/-- STOPPING_END (R151). -/
def execStoppingEnd (s : State) : Host.Outcome State Fault Refusal :=
  .next (if !s.resetLow && s.stoppingDone then s.startValues.beginStart else s)

/-! ## The configuration record -/

/-- The highest-numbered programmed slot of block 0 with its contents (R127). -/
def Flash.newestRecord (f : Flash) : Option FlashCell :=
  (List.range 32).reverse.findSome? f.slots.read

/-- The lowest blank slot of block 0 (R127). -/
def Flash.blankRecord (f : Flash) : Option Slot :=
  ((List.range 32).find? fun i => (f.slots.read i).isNone).map (Fin.ofNat 32)

/-- The values of a record as the configuration read delivers it, when the record check passes (R152). -/
def FlashCell.record (c : FlashCell) (errors : Nat) : Option ConfigRecord :=
  match c with
  | .torn => none
  | .written head _ => if errors ≤ 4 then checkRecord head else none

/-- The line interface as it becomes active (R74): RECOVERING with the raised threshold, the line taken to be high from
now on (DESIGN CHOICE, notes/assumptions/9.md). -/
def Line.activate (factor now : Nat) : Line :=
  { Line.start with since := now, idleRef := now, threshold := raised factor, recovery := raised factor }

/-- A good record is taken and SCANNING entered (R152): the scan begins with the tag of block 1 (R154). -/
def State.takeRecord (s : State) (c : ConfigRecord) : State :=
  let s := { s with ctl := { s.ctl with config := some c } }.designate
  let s := s.setPeer c.number fun e => { e with state := .live }
  let s := { s with line := .activate c.factor s.now }.enter .scanning
  { s with array := { s.array with scan := some .start } }.run (.scanTag 1)

/-- The end of the configuration read (R152). -/
def State.configurationRead (s : State) (errors : Nat) : State :=
  match s.array.flash.newestRecord with
  | none => s.enter .unconfigured
  | some c =>
    match c.record errors with
    | some r => s.takeRecord r
    | none => s.enter .configFault

/-- CONFIGURATION_READ_END (R152). -/
def execConfigurationReadEnd (errors : Nat) (s : State) : Host.Outcome State Fault Refusal :=
  .next
    (match s.array.running with
    | some ⟨.configRead, t⟩ =>
      if s.resetLow then s
      else
        let s := (s.reach (t + us 50)).endOperation
        if s.ctl.stopping then s else s.configurationRead errors
    | _ => s)

/-- The end of a configuration write (R178): OK, and a warm start is taken; FAIL, and the slot stays as one that reads
UNCORRECTABLE. -/
def State.configurationWritten (s : State) (slot : Slot) (record : List Byte) (ok : Bool) : State :=
  let s := if ok then s.putSlot ⟨0, slot⟩ (.written record []) else s
  if s.ctl.stopping then s else if ok then s.warmStart else s.post (.storage .configWrite 0 false)

/-- CONFIGURATION_WRITE_END (R178). -/
def execConfigurationWriteEnd (ok : Bool) (s : State) : Host.Outcome State Fault Refusal :=
  .next
    (match s.array.running with
    | some ⟨.configWrite slot record, _⟩ => if s.resetLow then s else s.endOperation.configurationWritten slot record ok
    | _ => s)

end Sys2Proof.Machine
end

