-- ==== Sys2Proof/Machine/HostPort.lean ====
section
/-! DEFINITION. The host port (chapter 9): the transaction, the eleven commands with their tests and responses, and the
effects that a response completes when it has been clocked out. -/

namespace Sys2Proof.Machine

/-! ## The transaction (R165) -/

/-- The transaction is over: select has risen. A RESTART answered in it takes the warm start (R179). -/
def State.closeTransaction (s : State) : State :=
  let restart :=
    match s.port.response with
    | some r => r.code == codeRestart
    | none => false
  let s :=
    { s with
      selLow := false
      port := { s.port with selected := false, decoder := [], taken := false, response := none } }
  if restart then s.warmStart else s

/-- A command is taken with its argument bytes, in a select period of its own: a period still open has ended before
(DESIGN CHOICE, notes/assumptions/10.md). -/
def State.beginCommand (s : State) (code : Byte) (args : List Byte) : State :=
  let s := if s.port.selected then s.closeTransaction else s
  { s with selLow := true, port := { s.port with selected := true, decoder := code :: args, taken := true } }

/-- The response of the command taken: its status and the bytes that follow. -/
def State.respond (s : State) (code : Byte) (st : Status) (bytes : List Byte) : State :=
  { s with port := { s.port with response := some ⟨code, st.byte :: bytes, 0⟩ } }

/-- A command's course: the state test comes first, with NOT_READY while stopping (R166, R167); nothing is received while
RESET is low (R150). -/
def State.command (s : State) (code : Byte) (args : List Byte) (accepts : StationState → Bool) (body : State → State) :
    State :=
  if s.resetLow then s
  else
    let s := s.beginCommand code args
    if s.ctl.stopping || !accepts s.ctl.state then s.respond code .notReady [] else body s

/-- Every state (R167). -/
def acceptAll (_ : StationState) : Bool := true

/-- The states that accept COUNTS (R167). -/
def acceptCounts : StationState → Bool
  | .unconfigured | .configFault => false
  | .scanning | .listening | .joining | .active | .mute | .withdrawn => true

/-- The states that accept PEER, ORIGIN, READ and TAKE (R167). -/
def acceptRunning : StationState → Bool
  | .unconfigured | .configFault | .scanning => false
  | .listening | .joining | .active | .mute | .withdrawn => true

/-- The states that accept RETIRE (R135, R167). -/
def acceptRetire : StationState → Bool
  | .joining | .active => true
  | .unconfigured | .configFault | .scanning | .listening | .mute | .withdrawn => false

/-- The states that accept CONFIGURE (R167). -/
def acceptConfigure : StationState → Bool
  | .unconfigured | .configFault => true
  | .scanning | .listening | .joining | .active | .mute | .withdrawn => false

/-- The number of argument bytes of a command but PUBLISH (section 11.4). -/
def argumentCount (code : Byte) : Nat :=
  if code = codePeer || code = codeOrigin then 1
  else if code = codeRead then 4
  else if code = codeRetire then 3
  else if code = codeConfigure then 7
  else 0

/-- Whether a PUBLISH length is 1 to 256, so that payload bytes follow (R173). -/
def lengthGood (n : Nat) : Bool := 1 ≤ n && n ≤ 256

/-- Whether the bytes received so far are a command that has been taken (R165, R173). -/
def commandTaken : List Byte → Bool
  | [] => false
  | code :: args =>
    if code = codePublish then
      2 ≤ args.length && (!lengthGood (word2At args 0) || 2 + word2At args 0 ≤ args.length)
    else if commandCodes.contains code then argumentCount code ≤ args.length
    else true

/-- SELECT_FALL_CMD_DISCARD (R165): select fell and rose again before the bytes received were a command. -/
def execSelectFallCmdDiscard (bytes : List Byte) (s : State) : Host.Outcome State Fault Refusal :=
  .next
    (if s.resetLow || commandTaken bytes then s
    else
      let s := if s.port.selected then s.closeTransaction else s
      { s with selLow := false, port := { s.port with selected := false, decoder := [], taken := false } })

/-- SELECT_RISE (R165, R179). The rise that ends a period whose transaction a start has discarded, or one in which RESET
fell, moves the pin alone (R150, R164). -/
def execSelectRise (s : State) : Host.Outcome State Fault Refusal :=
  .next (if s.resetLow || !s.port.selected then { s with selLow := false } else s.closeTransaction)

/-- What data out carries in byte `n` of the select period, counted from 0 (R165, R182): floating while select is high or
RESET is low; driven while select is low, with 00h under the command byte, its arguments and the turnaround byte, then with
the bytes of the response, and with 00h after them. After a cold start with select still low it is driven again, with
00h, as soon as RESET is high (DESIGN CHOICE, notes/assumptions/34.md). -/
def State.sends (s : State) (n : Nat) : Option Byte :=
  if s.selLow && !s.resetLow then
    match s.port.response with
    | some r => if n ≤ s.port.decoder.length then some 0 else some (r.bytes.getD (n - s.port.decoder.length - 1) 0)
    | none => some 0
  else none

/-- How many bytes of the select period have been clocked: those of the command, and with the first byte of the response
also the turnaround byte (R165). -/
def State.bytesClocked (s : State) : Nat :=
  s.port.decoder.length +
    match s.port.response with
    | some r => if r.clocked = 0 then 0 else 1 + r.clocked
    | none => 0

/-- Data out: the byte that is next to be clocked (R165). -/
def State.dataOut (s : State) : Option Byte := s.sends s.bytesClocked

/-! ## Completing effects (R165) -/

/-- The effect that a response makes when its last byte has been clocked out. -/
def State.completeResponse (s : State) (r : Response) : State :=
  if r.bytes.head? ≠ some Status.ok.byte then s
  else if r.code = codeNotice then
    if s.ctl.stopping then s
    else
      let rest := s.port.notices.drop 1
      { s with port := { s.port with notices := rest, attn := !rest.isEmpty } }
  else if r.code = codeTake then { s with port := { s.port with read := .idle, readKey := none, readBuffer := none } }
  else if r.code = codeCounts then
    { s with line := { s.line with counters := s.line.counters.subtract r.bytes } }
  else if r.code = codeStatus then { s with port := { s.port with overflow := s.port.dropped } }
  else s

/-- RESPONSE_CLOCKED_OUT (R165): the last byte of the response has been clocked out, and the completing effect of NOTICE
(R172), TAKE (R176), COUNTS (R170) or STATUS (R168) is made, once. -/
def execResponseClockedOut (s : State) : Host.Outcome State Fault Refusal :=
  .next
    (match s.port.response with
    | some r =>
      if s.resetLow || r.bytes.length ≤ r.clocked then s
      else
        { s with port := { s.port with response := some { r with clocked := r.bytes.length } } }.completeResponse r
    | none => s)

/-! ## Snapshots and notices -/

/-- BAD_CMD (R166): a byte that is no command code. -/
def execBadCmd (code : Byte) (s : State) : Host.Outcome State Fault Refusal :=
  .next
    (if commandCodes.contains code then s
    else s.command code [] acceptAll fun s => s.respond code .badCmd [])

/-- The flag byte of STATUS (section 11.4). -/
def State.statusFlags (s : State) : Nat :=
  s.array.full.toNat + 2 * s.line.stuck.toNat + 4 * s.port.overflow.toNat + 8 * s.ctl.config.isSome.toNat

/-- Whether a read is in flight (R168). -/
def State.readBusy (s : State) : Bool := s.port.read == .reading || s.port.read == .fetching

/-- The busy byte of STATUS (section 11.4). -/
def State.statusBusy (s : State) : Nat :=
  (s.repl.publish.phase != .idle).toNat + 2 * s.readBusy.toNat + 4 * (s.port.read == .held).toNat
    + 8 * s.retire.marking.isSome.toNat

/-- What STATUS returns after its status byte (R168, section 11.4). -/
def State.statusBytes (s : State) : List Byte :=
  [byte s.ctl.state.code, s.cfg.tag, byte s.cfg.number.val] ++ bytes2 s.cfg.roster.toNat
    ++ [byte s.cfg.factor, byte s.cfg.unitCode, byte s.cfg.intervalCode] ++ bytes2 s.freeCount ++ bytes2 s.badCount
    ++ [byte s.statusFlags, byte s.statusBusy, byte s.port.notices.length, byte s.repl.wants.length,
      byte (s.repl.wants.filter fun w => w.state == .asked).length, byte (s.txCount .beacon), byte (s.txCount .page),
      byte (s.txCount .repair), byte (s.txCount .want)]

/-- STATUS (R168). -/
def execStatus (s : State) : Host.Outcome State Fault Refusal :=
  .next
    (s.command codeStatus [] acceptAll fun s =>
      { s with port := { s.port with dropped := false } }.respond codeStatus .ok s.statusBytes)

/-- NOTICE (R172). -/
def execNotice (s : State) : Host.Outcome State Fault Refusal :=
  .next
    (s.command codeNotice [] acceptAll fun s =>
      match s.port.notices with
      | n :: _ => s.respond codeNotice .ok n.bytes
      | [] => s.respond codeNotice .empty [])

/-- COUNTS (R170). -/
def execCounts (s : State) : Host.Outcome State Fault Refusal :=
  .next (s.command codeCounts [] acceptCounts fun s => s.respond codeCounts .ok s.line.counters.bytes)

/-- The beacon part of a PEER response (section 11.4). -/
def beaconPart (b : Option BeaconRec) : List Byte :=
  match b with
  | some b =>
    byte (beaconFlags b.withdrawn b.full b.joining) :: bytes3 b.published ++ bytes3 b.floor
      ++ byte b.items.length :: itemBytes b.items
  | none => List.replicate 8 0

/-- The time since last-heard in milliseconds, saturating (R169). -/
def State.elapsed (s : State) (heard : Option Nat) : Nat :=
  match heard with
  | some t => min 65535 ((s.now - t) / us 1000)
  | none => 0

/-- A PEER response from an entry's parts (R169, section 11.4). -/
def State.peerPart (s : State) (e : PeerEntry) (available : Bool) : List Byte :=
  [byte e.state.code, byte (available.toNat + 2 * e.lastHeard.isSome.toNat + 4 * e.beacon.isSome.toNat)]
    ++ bytes2 (s.elapsed e.lastHeard) ++ beaconPart e.beacon

/-- What PEER returns after its status byte: for the own number LIVE, the availability it counts for itself and its own
beacon's contents (R27, R169). -/
def State.peerBytes (s : State) (p : Station) : List Byte :=
  if p = s.self then s.peerPart ⟨.live, none, some s.ownBeacon⟩ s.selfAvailable
  else s.peerPart (s.peer p) (s.peerAvailable p)

/-- PEER (R169). -/
def execPeer (n : Byte) (s : State) : Host.Outcome State Fault Refusal :=
  .next
    (s.command codePeer [n] acceptRunning fun s =>
      match station? n.toNat with
      | some p => s.respond codePeer .ok (s.peerBytes p)
      | none => s.respond codePeer .badArg [])

/-- The number of entries of an origin in a role (R22). -/
def State.roleCount (s : State) (o : Station) (r : Role) : Nat := ((s.entriesOf o).filter fun e => e.role == r).length

/-- Whether an entry is LANDING. -/
def Entry.isLanding (e : Entry) : Bool :=
  match e.place with
  | .landing _ => true
  | .live _ _ => false

/-- What ORIGIN returns after its status byte (R169, section 11.4). -/
def State.originBytes (s : State) (o : Station) : List Byte :=
  let r := s.org o
  let d := s.standin o
  let wants := s.repl.wants.filter fun w => w.key.origin == o
  [byte r.role.code, byte r.rank] ++ bytes3 r.floor ++ bytes3 r.known ++ bytes3 r.held ++ bytes3 r.published
    ++ bytes2 d.mask.toNat ++ bytes3 d.fromSeq ++ bytes3 d.toSeq ++ bytes2 (s.roleCount o .self)
    ++ bytes2 (s.roleCount o .designated) ++ bytes2 (s.roleCount o .standin)
    ++ [byte ((s.entriesOf o).filter Entry.isLanding).length, byte wants.length,
      byte (wants.filter fun w => w.state == .stalled).length]

/-- ORIGIN (R169). -/
def execOrigin (n : Byte) (s : State) : Host.Outcome State Fault Refusal :=
  .next
    (s.command codeOrigin [n] acceptRunning fun s =>
      match station? n.toNat with
      | some o => s.respond codeOrigin .ok (s.originBytes o)
      | none => s.respond codeOrigin .badArg [])

/-! ## PUBLISH (R44, R45, R173) -/

/-- The next sequence number of the own origin, less one: the greater of P and K[self] (R11). -/
def State.lastSeq (s : State) : Nat := max (s.org s.self).published (s.org s.self).known

/-- An accepted PUBLISH (R45). -/
def State.publishAccepted (s : State) (payload : List Byte) : State :=
  let q := s.lastSeq + 1
  let s := s.setPublished q
  let s := s.setPublish fun _ => ⟨.programming, q, 0, 0, none, none, true, some payload⟩
  let s := (s.insert ⟨⟨s.self, q⟩, .self, payload.length, .landing .publish⟩).settleWant ⟨s.self, q⟩
  (s.fetchInserted ⟨s.self, q⟩ payload).respond codePublish .accepted (bytes3 q)

/-- The tests of PUBLISH after the state test (R44). -/
def State.publish (s : State) (length : Nat) (payload : List Byte) : State :=
  if !lengthGood length || payload.length ≠ length then s.respond codePublish .badArg []
  else if s.repl.publish.phase ≠ .idle then s.respond codePublish .busy []
  else if s.array.full then s.respond codePublish .storeFull []
  else if seqMax ≤ s.lastSeq then s.respond codePublish .seqExhausted []
  else (s.publishAccepted payload).settle

/-- PUBLISH (R44): with a length of 0 or above 256 no payload bytes follow (R173). -/
def execPublish (length : BitVec 16) (payload : List Byte) (s : State) : Host.Outcome State Fault Refusal :=
  let sent := if lengthGood length.toNat then payload else []
  .next (s.command codePublish (bytes2 length.toNat ++ sent) (· == .active) fun s => s.publish length.toNat sent)

/-! ## READ and TAKE (R174, R176) -/

/-- The payload in a LANDING entry's buffer. -/
def State.bufferPayload (s : State) (b : BufRef) : List Byte :=
  match b with
  | .landing i =>
    match s.repl.landing.buffers.get i with
    | some p => p.payload
    | none => []
  | .publish => s.repl.publish.buffer.getD []

/-- An accepted READ: the key is recorded and the lookup decides the path (R174). -/
def State.readAccepted (s : State) (k : Key) : State :=
  let s := { s with port := { s.port with readKey := some k } }
  match s.lookup k with
  | .landing _ b => s.completeRead k .ok (s.bufferPayload b)
  | .live _ _ _ => { s with port := { s.port with read := .reading, readRequested := true } }
  | .absent _ => s.beginFetch k
  | .belowFloor _ => s

/-- The tests of READ after the state test (R174, R182). -/
def State.readPage (s : State) (o q : Nat) : State :=
  match station? o with
  | none => s.respond codeRead .badArg []
  | some o =>
    if !s.inRoster o || q = 0 then s.respond codeRead .badArg []
    else if s.port.read ≠ .idle then s.respond codeRead .busy []
    else if q < (s.org o).floor then s.respond codeRead .retired []
    else ((s.readAccepted ⟨o, q⟩).respond codeRead .accepted []).settle

/-- READ (R174). -/
def execRead (o : Byte) (seq : BitVec 24) (s : State) : Host.Outcome State Fault Refusal :=
  .next (s.command codeRead (o :: bytes3 seq.toNat) acceptRunning fun s => s.readPage o.toNat seq.toNat)

/-- What TAKE returns after its status byte (section 11.4). -/
def ReadResult.bytes (r : ReadResult) : List Byte :=
  byte r.status.code :: byte r.key.origin.val :: bytes3 r.key.seq
    ++ if r.status = .ok then bytes2 r.payload.length ++ r.payload else []

/-- TAKE (R176). -/
def execTake (s : State) : Host.Outcome State Fault Refusal :=
  .next
    (s.command codeTake [] acceptRunning fun s =>
      match s.port.read, s.port.readBuffer with
      | .held, some r => s.respond codeTake .ok r.bytes
      | .held, none | .idle, _ => s.respond codeTake .empty []
      | .reading, _ | .fetching, _ => s.respond codeTake .busy [])

/-! ## RETIRE, CONFIGURE and RESTART -/

/-- The tests of RETIRE after the state test, and its acceptance (R135). -/
def State.retireFloor (s : State) (f : Nat) : State :=
  if f < (s.org s.self).floor || (s.org s.self).published + 1 < f then s.respond codeRetire .badArg []
  else if s.retire.marking.isSome then s.respond codeRetire .busy []
  else ({ s with retire := ⟨some f, true⟩ }.respond codeRetire .accepted []).settle

/-- RETIRE (R135, R177). -/
def execRetire (floor : BitVec 24) (s : State) : Host.Outcome State Fault Refusal :=
  .next (s.command codeRetire (bytes3 floor.toNat) acceptRetire fun s => s.retireFloor floor.toNat)

/-- Whether a configuration read or write is running (R178). -/
def State.recordBusy (s : State) : Bool :=
  match s.array.running with
  | some ⟨.configRead, _⟩ | some ⟨.configWrite _ _, _⟩ => true
  | _ => false

/-- The tests of CONFIGURE after the state test, and its acceptance: the write is granted at once, and its slot is torn
until it ends (R127, R178). -/
def State.writeRecord (s : State) (record : List Byte) : State :=
  if s.recordBusy then s.respond codeConfigure .busy []
  else if (decodeRecord record).isNone then s.respond codeConfigure .badArg []
  else
    match s.array.flash.blankRecord with
    | none => s.respond codeConfigure .storeFull []
    | some i =>
      ((s.putSlot ⟨0, i⟩ .torn).run (.configWrite i (withCheck record))).respond codeConfigure .accepted []

/-- CONFIGURE (R178): taken with its seven record bytes. -/
def execConfigure (record : List Byte) (s : State) : Host.Outcome State Fault Refusal :=
  .next
    (if record.length = 7 then s.command codeConfigure record acceptConfigure fun s => s.writeRecord record else s)

/-- RESTART (R179): answered OK; the warm start follows when select rises. -/
def execRestart (s : State) : Host.Outcome State Fault Refusal :=
  .next (s.command codeRestart [] acceptAll fun s => s.respond codeRestart .ok [])

end Sys2Proof.Machine
end

