-- ==== Sys2Proof/Machine/LineSteps.lean ====
section
/-! DEFINITION. The happenings of the group line (chapter 4): reception, transmission, contention, the ack window, the
break and the stuck line, with what the frame engine does at each (R99 to R102, R110). -/

namespace Sys2Proof.Machine

/-! ## The level of the line (R74, R75)

A low is measured from its own fall, whoever drove it first and whoever holds it last (R75). The fall is known at the start
moment, and else it is told with the end of the low, by the width of the high before it, or with the BREAK. So an own bit
or pulse does not date it (notes/assumptions/22.md); a low on which the station has stopped driving is kept in `fell` until
it is measured. -/

/-- The width in U of the symbol driven last (R82). -/
def symbolWidth (last : Option Bool) : Nat :=
  match last with
  | none => 4
  | some false => 1
  | some true => 2

/-- When the station releases, or has released, the symbol driven last: its width after it began driving (R82). -/
def State.releaseMoment (s : State) (x : Sending) : Nat :=
  if s.line.driven then s.line.txSince + s.units (symbolWidth x.last) else s.line.txSince

/-- The LINE output: held low now. A symbol of a frame is held for its width, and released then (R82). -/
def State.lineOutput (s : State) : Bool :=
  s.line.driven &&
    match s.engine.sending with
    | some x => !s.transmitting || s.now < s.releaseMoment x
    | none => true

/-- Whether the line, as the receiver knows it, is high: neither in a low it has dated nor in one it has not. -/
def Line.up (l : Line) : Bool := l.high && !l.fell

/-- The level of the line as the station knows it (R74): low while it drives it low itself, and while its receiver knows
it to be low. -/
def State.level (s : State) : Bool := s.line.up && !s.lineOutput

/-- The idle reference (R79): the last rise of the line, and for a station in WINDOW no earlier than the window's end. -/
def State.idleReference (s : State) : Nat :=
  match s.line.receiver, s.line.window with
  | .window, some w => max s.line.idleRef (w.start + s.units (windowEnd s.cfg.factor))
  | .window, none | .idle, _ | .receiving, _ | .recovering, _ => s.line.idleRef

/-- The idle count (R74, R79): the time the line has been high since the idle reference; 0 while the line is low, and after
a start until the line interface is active. -/
def State.idleCount (s : State) : Nat := if s.lineActive && s.level then s.now - s.idleReference else 0

/-- The moment from which the line is taken to have been high: as measured, or with the level still low, now, since no
command tells the rise that ends a break (DESIGN CHOICE, notes/assumptions/30.md). -/
def State.lastRise (s : State) : Nat := if s.line.up then s.line.since else s.now

/-- The line has been high for a time since the rise that stands for the last one: the clock reaches the end of that time,
and the idle count runs from the rise (R79). -/
def State.highFor (s : State) (time : Nat) : State :=
  { s.reach (s.lastRise + time) with
    line := { s.line with high := true, since := s.lastRise, fell := false, idleRef := s.lastRise } }

/-- The line has risen, now: the level is high and the idle count runs from here (R75, R79). A station that is
transmitting has released the symbol it drove last (R82). -/
def State.lineRises (s : State) : State :=
  let l := { s.line with high := true, since := s.now, fell := false, idleRef := s.now }
  match s.engine.sending with
  | some x =>
    { s with line := if s.transmitting then { l with driven := false, txSince := s.releaseMoment x } else l }
  | none => { s with line := l }

/-- A low of a width has ended, after a high of a width when the line was last known to be high: the clock reaches its
end, and the line rises. -/
def State.lowEnded (s : State) (high width : Nat) : State :=
  (s.reach (s.line.since + s.sixteenths (if s.line.high then high + width else width))).lineRises

/-- A low of a width has ended: the line rises, and where its fall is known the clock reaches its end. -/
def State.lowOver (s : State) (width : Nat) : State :=
  (if s.line.high then s else s.reach (s.line.since + s.sixteenths width)).lineRises

/-- The line is low, and has been for so many sixteenths of U. -/
def State.lowSince (s : State) (n : Nat) : State :=
  { s with line := { s.line with high := false, since := s.now - s.sixteenths n, fell := false } }

/-- The line is low: a low under way keeps the moment of its fall (R75), and a new one began so many sixteenths of U
ago. -/
def State.lowHeld (s : State) (n : Nat) : State := if s.line.high then s.lowSince n else s

/-- The line fell after a high of a width, and is low: the low is measured from there (R75). -/
def State.fallsAfter (s : State) (high : Nat) : State :=
  if s.line.high then
    let fall := s.line.since + s.sixteenths high
    { s.reach fall with line := { s.line with high := false, since := fall, fell := false } }
  else s.lowSince 0

/-! ## Receiving (R78 to R81) -/

/-- Whether a confirmed low that begins no frame is ignored: in RECOVERING (R78, R81) and in an ack window (R90, R91).
Only the level and the idle count follow it (R75, R79). -/
def State.ignoresLows (s : State) : Bool := s.line.receiver == .recovering || s.line.receiver == .window

/-- FRAME_START (R78): a START in IDLE, or in RECOVERING after 6 U of high, begins a frame; the assembly buffer is
emptied (R99). Another in RECOVERING, or one in an ack window, is ignored. -/
def execFrameStart (high width : Nat) (s : State) : Host.Outcome State Fault Refusal :=
  .next
    (if s.lineActive && classifyLow width == .start then
      if s.line.receiver == .idle || (s.line.receiver == .recovering && 96 ≤ high) then
        let s := s.lowEnded high width
        { s with
          line := { s.line with receiver := .receiving, bitCount := some 0, expected := none }
          engine := { s.engine with assembly := .empty } }
      else if s.ignoresLows then s.lowEnded high width
      else s
    else s)

/-- The expected bit count, once the length field is complete (R80). -/
def expectedAt (n : Nat) (a : Assembly) (old : Option Nat) : Option Nat :=
  if n = 28 then some (expectedBits (headerLength a.header)) else old

/-- One more bit of the frame (R80, R99). -/
def State.takeBit (s : State) (b : Bool) : State :=
  let n := s.line.bitCount.getD 0
  let a := s.engine.assembly.push n b
  { s with
    line := { s.line with bitCount := some (n + 1), expected := expectedAt (n + 1) a s.line.expected }
    engine := { s.engine with assembly := a } }

/-- DATA_BIT (R80): a ZERO or ONE after a gap adds one bit; in RECOVERING and in an ack window it is ignored. -/
def execDataBit (gap width : Nat) (s : State) : Host.Outcome State Fault Refusal :=
  .next
    (match lowBit? width with
    | some b =>
      if s.lineActive && isGap gap then
        if s.line.receiver == .receiving then (s.lowEnded gap width).takeBit b
        else if s.ignoresLows then s.lowEnded gap width
        else s
      else s
    | none => s)

/-- The frame being received is discarded. -/
def State.discardFrame (s : State) : State :=
  { s with
    line := { s.line with bitCount := none, expected := none }
    engine := { s.engine with assembly := .empty } }

/-- A reception has failed (R81, R83). -/
def State.failReception (s : State) : State :=
  { s.discardFrame with line := { s.discardFrame.line with
      receiver := .recovering, threshold := raised s.cfg.factor, recovery := raised s.cfg.factor } }

/-- The level after a symbol error: high after a low, and low after a short gap, since the end of that gap. -/
def State.symbolLevel (s : State) (f : SymbolFault) : State :=
  match f with
  | .low width => s.lowOver width
  | .shortGap width => s.fallsAfter width

/-- SYMBOL_ERROR (R80). -/
def execSymbolError (fault : SymbolFault) (s : State) : Host.Outcome State Fault Refusal :=
  .next
    (if s.lineActive && s.line.receiver == .receiving && isSymbolError fault then
      ((s.symbolLevel fault).count .symbol).failReception
    else s)

/-- STRAY_LOW (R81): a confirmed low that is no START and no BREAK is counted in IDLE, and ignored in RECOVERING and in
an ack window; the idle count restarts with the rise (R79). -/
def execStrayLow (width : Nat) (s : State) : Host.Outcome State Fault Refusal :=
  .next
    (if s.lineActive && isStray width then
      if s.line.receiver == .idle then (s.lowOver width).count .symbol
      else if s.ignoresLows then s.lowOver width
      else s
    else s)

/-- RECOVERY_PERIOD_END (R81): the line has been high for the recovery period, since the last rise, which with the level
still low is taken to be now (DESIGN CHOICE, notes/assumptions/30.md). -/
def execRecoveryPeriodEnd (s : State) : Host.Outcome State Fault Refusal :=
  .next
    (if s.lineActive && s.line.receiver == .recovering && !s.line.stuck then
      let s := s.highFor (s.units s.line.recovery)
      { s with line := { s.line with receiver := .idle } }
    else s)

/-- The receiver after a valid frame (R80): the window of a PAGE with R of 2 or more, or IDLE. -/
def State.afterValid (s : State) (m : Message) (gap : Nat) : State :=
  let s := s.discardFrame
  if m.kind = .page && 2 ≤ s.cfg.factor then
    { s with line := { s.line with receiver := .window, threshold := 6, idleRef := gap, window := some ⟨gap, false, 0⟩ } }
  else { s with line := { s.line with receiver := .idle, threshold := 6, idleRef := gap } }

/-- Whether a frame of so many bits is truncated (R80). -/
def truncated (bits : Nat) (expected : Option Nat) : Bool :=
  bits < 28 ||
    match expected with
    | some n => bits < n
    | none => false

/-- The end gap of a received frame (R80, R100, R101); `gap` is its start. -/
def State.endFrame (s : State) (gap : Nat) : State :=
  let bits := s.line.bitCount.getD 0
  if truncated bits s.line.expected then (s.count .truncated).failReception
  else
    match checkFrame s.cfg.tag s.cfg.roster bits s.engine.assembly with
    | .valid m => (s.afterValid m gap).takeFrame m gap
    | .crc => (s.count .crc).failReception
    | .format => (s.count .format).failReception
    | .foreign => (s.count .foreign).failReception

/-- FRAME_END_GAP (R100): the high has reached 40/16 U. The end of the station's own frame is SENT_TO_END. -/
def execFrameEndGap (s : State) : Host.Outcome State Fault Refusal :=
  .next
    (if s.lineActive && s.line.receiver == .receiving && s.line.up && s.engine.sending.isNone then
      ((s.reach (s.line.since + s.sixteenths 40)).endFrame s.line.since).settle
    else s)

/-! ## Sending (R82 to R87) -/

/-- The frame for an entry is begun (R84, R108): built, and its START driven. The low is measured from the fall of the line,
so many sixteenths of U ago where a contention is joined (R75), and the idle count is 0 from now on (R79). -/
def State.beginFrame (s : State) (e : TxEntry) (fallen : Nat) : State :=
  { s with
    engine := { s.engine with sending := some ⟨e.target, s.buildFrame e.target, 0, none⟩ }
    line := { s.line with
      high := false, since := s.now - s.sixteenths fallen, fell := false, tx := .starting, driven := true, txSince := s.now } }

/-- Whether the line interface may begin a frame at its threshold (R82, R84). -/
def State.mayBegin (s : State) : Bool :=
  s.awake && s.mayDrive && s.line.tx == .quiet && s.line.receiver == .idle && !s.line.stuck && s.level &&
    s.engine.sending.isNone

/-- START_MOMENT (R84): with an offer, the idle count reaches the threshold. The station drives its START, joining a
contention that began less than 2/16 U before; after an earlier fall it does not begin. A fall not yet 4/16 U old is not
confirmed, and the filtered level stays high (R74, R75). -/
def execStartMoment (fallen : Nat) (s : State) : Host.Outcome State Fault Refusal :=
  .next
    (if s.mayBegin then
      let t := s.reach (s.line.idleRef + s.units s.line.threshold)
      match t.offer with
      | some e => if fallen < 2 then t.beginFrame e fallen else if fallen < 4 then t else t.lowSince fallen
      | none => s
    else s)

/-- The moment the line rose after the symbol driven last: as measured, or where its end has not been told, when the
station released it. -/
def State.riseAfter (s : State) (x : Sending) : Nat :=
  if s.line.high && !s.line.driven then s.line.since else s.releaseMoment x

/-- The next bit is driven, 1 U after the rise (R82); the arbitration field is the first six bits (R85). A fall less than
2/16 U before is joined, and is measured with the bit (R75, R86). -/
def State.driveBit (s : State) (x : Sending) (b : Bool) (rest : List Bool) : State :=
  let rise := s.riseAfter x
  let s := s.reach (rise + s.units 1)
  { s with
    line := { s.line with
      high := true, since := rise, fell := false, idleRef := rise
      tx := if x.sent < 6 then .arbitrating else .sending, driven := true, txSince := s.now }
    engine := { s.engine with sending := some { x with rest := rest, sent := x.sent + 1, last := some b } } }

/-- The last check bit is released (R82). -/
def State.releaseLast (s : State) (x : Sending) : State :=
  let release := s.releaseMoment x
  let s := s.reach release
  { s with line := { s.line with tx := .quiet, driven := false, txSince := release } }

/-- DRIVE_NEXT_SYMBOL (R82). -/
def execDriveNextSymbol (s : State) : Host.Outcome State Fault Refusal :=
  .next
    (match s.engine.sending with
    | some x =>
      if s.lineActive && s.transmitting then
        match x.rest with
        | b :: rest => s.driveBit x b rest
        | [] => s.releaseLast x
      else s
    | none => s)

/-- The publish is told that its transmission, cancelled or overtaken by MUTE, has been cut off (R50 to R52, R110). -/
def State.publishCut (s : State) (t : TxTarget) : State :=
  match t with
  | .page _ => if s.repl.publish.phase = .sending then s.publishDone (s.repl.publish.overtaken.getD .under) else s
  | .beacon | .repair _ | .want _ _ _ => s

/-- The transmission is lost or disturbed (R85, R86, R110): driving stops, and the entry stays unless it has been
cancelled or the station is in MUTE (R112). In every case of R85 and R86 the line is low then, and the idle count 0
(R79). -/
def State.cutTransmission (s : State) (x : Sending) : State :=
  let s :=
    { s with
      line := { s.line with fell := s.line.high, tx := .quiet, driven := false, txSince := s.now }
      engine := { s.engine with sending := none } }
  match s.tx? x.target with
  | some e =>
    if e.cancelled || s.ctl.state = .mute then (s.removeTx x.target).publishCut x.target
    else s.setTx x.target fun d => { d with renew := false }
  | none => s

/-- ARBITRATION_LOSS (R85): after a ZERO of the arbitration field. -/
def execArbitrationLoss (s : State) : Host.Outcome State Fault Refusal :=
  .next
    (match s.engine.sending with
    | some x =>
      if s.lineActive && s.line.tx == .arbitrating && x.last == some false then
        ((s.count .arbLoss).cutTransmission x).settle
      else s
    | none => s)

/-- COLLISION (R86). -/
def execCollision (s : State) : Host.Outcome State Fault Refusal :=
  .next
    (match s.engine.sending with
    | some x => if s.lineActive then ((s.count .collision).cutTransmission x).settle else s
    | none => s)

/-- A want whose WANT has been sent, `gap` being the start of the frame's end gap (R62, R63). -/
def Want.sent (w : Want) (gap interval : Nat) : Want :=
  match w.state with
  | .idle => { w with asks := min 6 (w.asks + 1) }
  | .asked => { w with asks := min 6 (w.asks + 1), next := some (gap + interval) }
  | .stalled => { w with next := some (gap + 8 * interval) }

/-- The Want List is told that its WANT has been sent (R62, R63). -/
def State.wantsSent (s : State) (o : Station) (first count gap : Nat) : State :=
  { s with repl := { s.repl with
      wants := s.repl.wants.map fun w => if inRange o first count w.key then w.sent gap s.cfg.interval else w } }

/-- The fetch is told that its WANT has been sent (R70); one that no longer asks for the key ignores it (R106). -/
def State.fetchSent (s : State) (k : Key) (gap : Nat) : State :=
  match s.repl.fetch with
  | some f =>
    if f.key = k && !f.held then
      { s with repl := { s.repl with fetch := some { f with deadline := some (gap + s.cfg.interval) } } }
    else s
  | none => s

/-- The owners of an entry sent to its end are told (R47, R110). -/
def State.toldSent (s : State) (e : TxEntry) (gap : Nat) : State :=
  match e.target with
  | .page _ => s.setPublish fun p => if p.phase = .sending then { p with phase := .awaitAcks } else p
  | .want o first count =>
    let s := if e.byWants && !e.cancelled then s.wantsSent o first count gap else s
    if e.byFetch && !e.cancelled then s.fetchSent ⟨o, first⟩ gap else s
  | .beacon | .repair _ => s

/-- The entry sent to its end leaves, and its owners are told; a beacon renewed meanwhile stays (R105, R110). -/
def State.leaveSent (s : State) (e : TxEntry) (gap : Nat) : State :=
  let r := s.removeTx e.target
  if e.renew && !e.cancelled && s.ctl.state != .mute then r.place (s.newTx e.target s.now)
  else r.toldSent e gap

/-- The line interface after the station's own frame (R80, R83, R88): a PAGE with R of 2 or more opens the ack window.
The threshold is 14 U and the receiver in IDLE or WINDOW as R87 says, whatever the own receiver has made of the frame
(DESIGN CHOICE, notes/assumptions/29.md). -/
def State.afterOwn (s : State) (kind : FrameKind) (gap : Nat) : State :=
  let s := s.discardFrame
  if kind = .page && 2 ≤ s.cfg.factor then
    { s with line := { s.line with
        high := true, since := gap, fell := false, receiver := .window, threshold := 14, idleRef := gap
        window := some ⟨gap, true, 0⟩ } }
  else
    { s with line := { s.line with
        high := true, since := gap, fell := false, receiver := .idle, threshold := 14, idleRef := gap } }

/-- The station's own frame has been sent to its end; `gap` is the start of its end gap (R87, R110). -/
def State.sentToEnd (s : State) (x : Sending) (gap : Nat) : State :=
  let s := { s with engine := { s.engine with sending := none } }.afterOwn (targetKind x.target) gap
  match s.tx? x.target with
  | some e => s.leaveSent e gap
  | none => s

/-- The start of the own end gap (R77): the rise as measured, but no earlier than the release of the last check bit. -/
def State.ownGap (s : State) : Nat := if s.line.high then max s.line.since s.line.txSince else s.line.txSince

/-- SENT_TO_END (R110): the own end gap reaches 40/16 U. -/
def execSentToEnd (s : State) : Host.Outcome State Fault Refusal :=
  .next
    (match s.engine.sending with
    | some x =>
      if s.lineActive && s.line.tx == .quiet && x.rest.isEmpty then
        ((s.reach (s.ownGap + s.sixteenths 40)).sentToEnd x s.ownGap).settle
      else s
    | none => s)

/-! ## The ack window (R88 to R91) -/

/-- ACK_PULSE (R89): 1 U into its slot the pending ack is driven, in JOINING and ACTIVE (R82). The line may have fallen
before, by the pulse of another station in the slot, and the low is measured from that fall (R75). -/
def execAckPulse (s : State) : Host.Outcome State Fault Refusal :=
  .next
    (match s.line.pendingAck, s.line.window with
    | some j, some w =>
      if s.awake && s.line.tx == .acking && !s.line.driven && (s.ctl.state == .joining || s.ctl.state == .active) then
        let s := s.reach (w.start + s.units (slotStart j + 1))
        { s with line := { s.line with driven := true, txSince := s.now } }
      else s
    | _, _ => s)

/-- ACK_PULSE_END (R89): the pulse of 2 U has been driven, to its end also in a station that is stopping (R151). Another
driver may hold the line low still: the rise is told with the end of the low (R75). -/
def execAckPulseEnd (s : State) : Host.Outcome State Fault Refusal :=
  .next
    (if s.lineActive && s.line.tx == .acking && s.line.driven then
      let s := s.reach (s.line.txSince + s.units 2)
      { s with line := { s.line with
          tx := .quiet, driven := false, txSince := s.now, pendingAck := none } }
    else s)

/-- ACK_SLOT_SAMPLING (R90): the sender finds a slot acked when the line was low for at least 1 U in its sampling
interval. -/
def execAckSlotSampling (slot low : Nat) (s : State) : Host.Outcome State Fault Refusal :=
  .next
    (match s.line.window with
    | some w =>
      if s.lineActive && w.mine && 1 ≤ slot && slot ≤ 2 * (s.cfg.factor - 1) then
        let s := s.reach (w.start + s.sixteenths (16 * slotStart slot + 56))
        if 16 ≤ low then
          { s with line := { s.line with window := some { w with acked := w.acked ||| (1#8 <<< slot) } } }
        else s
      else s
    | none => s)

/-- The set of acked slots handed to the publish, by the sender of the PAGE (R48, R90). -/
def State.handOver (s : State) (w : Window) : State := if w.mine then s.publishWindow w.acked else s

/-- ACK_WINDOW_END (R90, R91): the idle count runs from the end of the window (R79). -/
def execAckWindowEnd (s : State) : Host.Outcome State Fault Refusal :=
  .next
    (match s.line.window with
    | some w =>
      if s.lineActive && s.line.receiver == .window then
        let reference := s.idleReference
        let s := (s.reach (w.start + s.units (windowEnd s.cfg.factor))).dropAck
        let s :=
          { s with line := { s.line with
              window := none, receiver := .idle, idleRef := reference, threshold := if w.mine then 14 else 6 } }
        (s.handOver w).settle
      else s
    | none => s)

/-! ## Break and stuck line (R92 to R94) -/

/-- BREAK_END (R92): the break of 10 U has been sent, and the queue is emptied (R112). -/
def execBreakEnd (s : State) : Host.Outcome State Fault Refusal :=
  .next
    (if s.lineActive && s.line.tx == .breaking then
      let s := (s.reach (s.line.txSince + s.units 10)).clearQueue
      { s with line := { s.line with tx := .quiet, driven := false, txSince := s.now } }
    else s)

/-- The window that a break ends, with its hand-over (R90, R93). -/
def State.breakWindow (s : State) : State :=
  match s.line.window with
  | some w => { s with line := { s.line with window := none } }.handOver w
  | none => s

/-- BREAK (R93): a low reaches 8 U. The receiver is in RECOVERING from now on, with 6 U to wait after the rise; a pending
ack goes with its window. -/
def execLineBreak (s : State) : Host.Outcome State Fault Refusal :=
  .next
    (if s.lineActive then
      let s := (((s.reach (s.line.since + s.units 8)).lowHeld 128).count .lineBreak).discardFrame.dropAck
      { s with line := { s.line with receiver := .recovering, recovery := 6, threshold := 6 } }.breakWindow.settle
    else s)

/-- LINE_STUCK (R94): a low reaches 64 U. -/
def execLineStuck (s : State) : Host.Outcome State Fault Refusal :=
  .next
    (if s.lineActive && !s.line.stuck && !s.line.high then
      let s := (s.reach (s.line.since + s.units 64)).dropAck
      { s with line := { s.line with stuck := true, receiver := .recovering, recovery := 6, threshold := 6 } }.post
        (.lineFault true)
    else s)

/-- LINE_STUCK_CLEAR (R94): the line has been high for 6 U, since the last rise, which with the level still low is taken to
be now (DESIGN CHOICE, notes/assumptions/30.md). -/
def execLineStuckClear (s : State) : Host.Outcome State Fault Refusal :=
  .next
    (if s.lineActive && s.line.stuck then
      let s := s.highFor (s.units 6)
      { s with line := { s.line with stuck := false, receiver := .idle, threshold := 6 } }.post (.lineFault false)
    else s)

end Sys2Proof.Machine
end

