-- ==== Sys2Proof/Machine/ScanSteps.lean ====
section
/-! DEFINITION. The scan (section 8.4): the end of each header read (R155, R156) and of each mark read (R157). -/

namespace Sys2Proof.Machine

/-! ## What a header read finds (R127, R180) -/

/-- The outcome of the header read of a tag; disturbed bits leave the check of a RETIRED tag unmet. -/
def State.tagRead (s : State) (b : Block) (disturbed : Bool) : TagRead :=
  match s.array.flash.tags.read b.val with
  | none => .blank
  | some .torn => .invalid
  | some (.written head _) =>
    match decodeTag head with
    | .retired reason stamp => if disturbed then .invalid else .retired reason stamp
    | .blank => .blank
    | .factoryBad => .factoryBad
    | .invalid => .invalid

/-- The outcome of the header read of a slot; disturbed bits leave the header check unmet. -/
def State.headerRead (s : State) (l : Loc) (disturbed : Bool) : HeaderRead :=
  match s.array.flash.slots.read l.number with
  | none => .blank
  | some .torn => .invalid
  | some (.written head _) =>
    match decodeHeader head with
    | .valid h => if disturbed then .invalid else .valid h
    | .blank => .blank
    | .invalid => .invalid

/-! ## Steps -/

/-- Change what the scan keeps. -/
def State.setScan (s : State) (f : Scan → Scan) : State := { s with array := { s.array with scan := s.array.scan.map f } }

/-- The first block from a number on that is not BAD. -/
def State.nextGood (s : State) (start : Nat) : Option Block :=
  (s.storageBlocks.find? fun e => start ≤ e.1.val && e.2.state != .bad).map (·.1)

/-- A tag that makes its block BAD (R155): the block's record, its Bad Block Table record while there is room, and the
stamp the tag carries. -/
def State.scanBad (s : State) (b : Block) (stamp : Nat) : State :=
  let s := (s.setBlock b fun r => { r with state := .bad }).setScan fun c => { c with maxStamp := max c.maxStamp stamp }
  if s.array.badTable.length < 32 then { s with array := { s.array with badTable := s.array.badTable ++ [b] } }
  else s.setScan fun c => { c with unrecorded := c.unrecorded.or (some b) }

/-- The headers of a block are read from slot 0 on. -/
def State.scanSlots (s : State) (b : Block) (tagInvalid : Bool) : State :=
  (s.setScan fun c => { c with tagInvalid := tagInvalid, highest := none, blockStamp := none }).run (.scanSlot ⟨b, 0⟩)

/-- What the scan notes of any slot header (R155, R157): the highest slot that is not blank, and the stamps. -/
def State.noteSlot (s : State) (l : Loc) (r : HeaderRead) : State :=
  match r with
  | .blank => s
  | .invalid => s.setScan fun c => { c with highest := some l.slot.val }
  | .valid h =>
    s.setScan fun c =>
      { c with
        highest := some l.slot.val, maxStamp := max c.maxStamp h.stamp
        blockStamp := some (max (c.blockStamp.getD 0) h.stamp) }

/-- A candidate for the newest mark (R157): of a stamp below the bound, if there is one, and above the best so far. -/
def Scan.offerMark (c : Scan) (l : Loc) (stamp : Nat) : Scan :=
  let allowed :=
    match c.below with
    | some b => stamp < b
    | none => true
  let better :=
    match c.mark with
    | some (_, t) => t < stamp
    | none => true
  if allowed && better then { c with mark := some (l, stamp) } else c

/-- A kept slot (R156): inserted as a LIVE entry, or weighed by its stamp against the entry its key has. -/
def State.keepSlot (s : State) (l : Loc) (h : PageHeader) (role : Role) : State :=
  let k : Key := ⟨h.origin, h.seq⟩
  match s.entry? k with
  | some e =>
    match e.place with
    | .live old t => if t < h.stamp then s.moveEntry k old l h.stamp else s
    | .landing _ => s
  | none =>
    let s := ((s.tellKnown k.origin k.seq).insert ⟨k, role, h.length, .live l h.stamp⟩).addLive l.block
    if role = .standin then s.setStandin k.origin fun r => { r with mask := rosterOf ((s.designated k.origin).drop 1) }
    else s

/-- The role a VALID slot that is no mark is kept with, if it is kept (R156). -/
def State.keptRole (s : State) (h : PageHeader) : Option Role :=
  match (s.org h.origin).role with
  | .self => some .self
  | .designated => some .designated
  | .none | .standin | .mark => if h.role = .standin then some .standin else none

/-- Whether a header is that of a mark of this station (R156). -/
def State.ownMark (s : State) (h : PageHeader) : Bool := h.tag == s.cfg.tag && h.role == .mark && h.origin == s.self

/-- The judgement of a VALID slot (R156). -/
def State.judgeSlot (s : State) (l : Loc) (h : PageHeader) : State :=
  if h.tag ≠ s.cfg.tag then s
  else if h.role = .mark then if h.origin = s.self then s.setScan fun c => c.offerMark l h.stamp else s
  else if !s.inRoster h.origin || h.seq = 0 then s
  else
    match s.keptRole h with
    | some role => s.keepSlot l h role
    | none => s

/-- The classification of a block whose slots have all been read (R155). -/
def State.classify (s : State) (b : Block) (c : Scan) : State :=
  if c.tagInvalid then s.setBlock b fun r => { r with state := .closed, used := 32 }
  else
    match c.highest with
    | none =>
      { s with array := { s.array with freeList := s.array.freeList ++ [b] } }.setBlock b fun r =>
        { r with state := .free, used := 0 }
    | some i =>
      let s := s.setBlock b fun r => { r with state := .closed, used := i + 1 }
      if i = 31 then s
      else
        match c.blockStamp with
        | some t =>
          s.setScan fun c =>
            match c.openBest with
            | some (_, best) => if best < t then { c with openBest := some (b, t) } else c
            | none => { c with openBest := some (b, t) }
        | none => s

/-! ## The end of the scan (R157) -/

/-- The partially programmed block with the highest stamp becomes OPEN (R155), or else the head of the Free Block List
(R117). -/
def State.openScanned (s : State) (c : Scan) : State :=
  match c.openBest with
  | some (b, _) => s.setBlock b fun r => { r with state := .opened }
  | none => s.openNext

/-- The own P, from the mark's and the highest own seq kept, which is what K[self] has been told so far (R157). -/
def State.settlePublished (s : State) (markP : Nat) : State := s.setPublished (max markP (s.org s.self).known)

/-- Storage is exhausted as the scan ends, or the station enters LISTENING (R157, R158). TABLE_FULL is reported where the
last stamp has been found too (DESIGN CHOICE, notes/assumptions/28.md). -/
def State.leaveScan (s : State) (c : Scan) : State :=
  match c.unrecorded with
  | some b => s.exhaust .tableFull b
  | none => if stampMax ≤ c.maxStamp then s.exhaust .stamp 0 else (s.enter .listening).evaluate.fillAll

/-- The scan ends (R157). -/
def State.endScan (s : State) : State :=
  match s.array.scan with
  | some c =>
    ({ s with array := { s.array with scan := none, nextStamp := c.maxStamp + 1 } }.openScanned c).leaveScan c |>.settle
  | none => s

/-- A header pass is over: the newest mark found is read, or the scan ends without one (R157). -/
def State.endPass (s : State) : State :=
  match s.array.scan.bind (·.mark) with
  | some (l, stamp) => s.run (.scanMark l stamp)
  | none => (s.settlePublished 0).endScan

/-- The next block of the pass: its tag in the first pass, the slots of the next block that is not BAD in a further one
(R154, R157). -/
def State.nextBlock (s : State) (b : Block) (further : Bool) : State :=
  if further then
    match s.nextGood (b.val + 1) with
    | some b' => s.scanSlots b' false
    | none => s.endPass
  else if h : b.val + 1 < 512 then s.run (.scanTag ⟨b.val + 1, h⟩)
  else s.endPass

/-- The end of the header read of a tag (R155). -/
def State.scanTagDone (s : State) (b : Block) (r : TagRead) : State :=
  match r with
  | .blank => s.scanSlots b false
  | .invalid => s.scanSlots b true
  | .factoryBad => (s.scanBad b 0).nextBlock b false
  | .retired _ stamp => (s.scanBad b stamp).nextBlock b false

/-- The end of the header read of a slot in the first pass (R155, R156). -/
def State.scanSlotFirst (s : State) (l : Loc) (r : HeaderRead) : State :=
  let s := s.noteSlot l r
  let s :=
    match r with
    | .valid h => s.judgeSlot l h
    | .blank | .invalid => s
  if h : l.slot.val + 1 < 32 then s.run (.scanSlot ⟨l.block, ⟨l.slot.val + 1, h⟩⟩)
  else (s.classify l.block (s.array.scan.getD .start)).nextBlock l.block false

/-- The end of the header read of a slot in a further pass (R157). -/
def State.scanSlotFurther (s : State) (l : Loc) (r : HeaderRead) : State :=
  let s :=
    match r with
    | .valid h => if s.ownMark h then s.setScan fun c => c.offerMark l h.stamp else s
    | .blank | .invalid => s
  if h : l.slot.val + 1 < 32 then s.run (.scanSlot ⟨l.block, ⟨l.slot.val + 1, h⟩⟩)
  else s.nextBlock l.block true

/-- The end of the header read of a slot. -/
def State.scanSlotDone (s : State) (l : Loc) (r : HeaderRead) : State :=
  if (s.array.scan.bind (·.below)).isSome then s.scanSlotFurther l r else s.scanSlotFirst l r

/-- SCAN_HEADER_READ_END (R155). -/
def execScanHeaderReadEnd (disturbed : Bool) (s : State) : Host.Outcome State Fault Refusal :=
  .next
    (match s.array.running with
    | some ⟨.scanTag b, t⟩ =>
      if s.resetLow then s
      else
        let s := (s.reach (t + us 10)).endOperation
        if s.ctl.stopping then s else s.scanTagDone b (s.tagRead b disturbed)
    | some ⟨.scanSlot l, t⟩ =>
      if s.resetLow then s
      else
        let s := (s.reach (t + us 10)).endOperation
        if s.ctl.stopping then s else s.scanSlotDone l (s.headerRead l disturbed)
    | _ => s)

/-- The mark page as its read delivers it: its floor and its P (R123, R136). -/
def State.markRead (s : State) (l : Loc) (errors : Nat) : Option (Nat × Nat) :=
  match s.pageAt l errors with
  | some (h, data) => if h.role = .mark then some (h.seq, word3At data 0) else none
  | none => none

/-- A mark has been read (R157): it becomes the mark entry, and gives the own floor and P. -/
def State.takeMark (s : State) (l : Loc) (stamp floor p : Nat) : State :=
  let highest := (s.org s.self).known
  let s := (s.moveMark l stamp).tellFloor s.self floor
  (s.setPublished (max p highest)).endScan

/-- A mark could not be read (R157): a further header pass seeks the newest mark with a lower stamp (DESIGN CHOICE,
notes/assumptions/20.md). -/
def State.seekMark (s : State) (stamp : Nat) : State :=
  let s := s.setScan fun c => { c with below := some stamp, mark := none }
  match s.nextGood 1 with
  | some b => s.scanSlots b false
  | none => s.endPass

/-- The end of the read of a mark's payload (R157). -/
def State.scanMarkDone (s : State) (l : Loc) (stamp errors : Nat) : State :=
  let r := s.markRead l errors
  let s := if 3 ≤ errors || r.isNone then s.setBlock l.block fun b => { b with weak := true } else s
  match r with
  | some (floor, p) => s.takeMark l stamp floor p
  | none => s.seekMark stamp

/-- SCAN_MARK_READ_END (R157). -/
def execScanMarkReadEnd (errors : Nat) (s : State) : Host.Outcome State Fault Refusal :=
  .next
    (match s.array.running with
    | some ⟨.scanMark l stamp, t⟩ =>
      if s.resetLow then s
      else
        let s := (s.reach (t + us 50)).endOperation
        if s.ctl.stopping then s else s.scanMarkDone l stamp errors
    | _ => s)

end Sys2Proof.Machine
end

