-- ==== Sys2Proof/Machine/Timers.lean ====
section
/-! DEFINITION. The timers: an entry's earliest start (R107), silence (R32), the beacon timer (R38), LISTENING and JOINING
(R158 to R160), and the deadlines of wants and of the fetch (R62, R63, R70). Each moves the clock to its due moment
(DESIGN CHOICE, notes/assumptions/3.md), and none is taken while the station is stopping (R151). -/

namespace Sys2Proof.Machine

/-- EARLIEST_START_PASSES (R107): the entry becomes ready, and the offer is judged at the next start moment. -/
def execEarliestStartPasses (target : TxTarget) (s : State) : Host.Outcome State Fault Refusal :=
  .next
    (match s.tx? target with
    | some e => if s.awake then s.reach e.earliest else s
    | none => s)

/-- A LIVE peer's silence timeout has expired (R32). -/
def State.goSilent (s : State) (p : Station) : State :=
  let before := s.view
  let s := (s.setPeer p fun e => { e with state := .silent }).postPeer p
  (s.report before).settle

/-- SILENCE_TIMEOUT (R32): 3 B after last-heard. -/
def execSilenceTimeout (p : Station) (s : State) : Host.Outcome State Fault Refusal :=
  .next
    (match (s.peer p).lastHeard with
    | some t =>
      if s.awake && s.running && s.inRoster p && p != s.self && (s.peer p).state == .live then
        (s.reach (t + 3 * s.cfg.interval)).goSilent p
      else s
    | none => s)

/-- A BEACON request (R104, R105). -/
def State.requestBeacon (s : State) : State :=
  match s.tx? .beacon with
  | some _ =>
    if s.inTransmission .beacon then s.setTx .beacon fun e => { e with renew := true }
    else (s.removeTx .beacon).place (s.newTx .beacon s.now)
  | none => s.place (s.newTx .beacon s.now)

/-- BEACON_TIMER_EXPIRY (R38). -/
def execBeaconTimerExpiry (s : State) : Host.Outcome State Fault Refusal :=
  .next
    (match s.members.beaconTimer with
    | some t =>
      if s.awake then
        let s := s.reach t
        { s with members := { s.members with beaconTimer := some (t + s.cfg.interval) } }.requestBeacon
      else s
    | none => s)

/-- LISTENING is left for JOINING (R37, R158, R159). -/
def State.enterJoining (s : State) : State :=
  let before := s.view
  ((s.enter .joining).liftPublished.startBeaconTimer.fillAll.afterStateChange before).settle

/-- LISTENING_END (R158): 2 B after entry. -/
def execListeningEnd (s : State) : Host.Outcome State Fault Refusal :=
  .next
    (if s.awake && s.ctl.state == .listening then (s.reach (s.ctl.since + 2 * s.cfg.interval)).enterJoining else s)

/-- The join limit is reached (R160): ACTIVE, and JOIN_INCOMPLETE with the conditions that failed. -/
def State.joinLimit (s : State) : State :=
  let n : Notice := .joinIncomplete (!s.holdingsComplete) (!s.frontierHeard) s.repl.wants.length
  (s.enterActive.post n).settle

/-- JOIN_LIMIT (R160): 16 B after entry to JOINING. -/
def execJoinLimit (s : State) : Host.Outcome State Fault Refusal :=
  .next
    (if s.awake && s.ctl.state == .joining then (s.reach (s.ctl.since + 16 * s.cfg.interval)).joinLimit else s)

/-- Whether a want is ASKED with its deadline at or before a moment. -/
def Want.expired (w : Want) (t : Nat) : Bool :=
  w.state == .asked &&
    match w.next with
    | some d => d ≤ t
    | none => false

/-- A want whose deadline has passed (R62). -/
def Want.afterDeadline (w : Want) (interval : Nat) : Want :=
  if w.asks < 6 then { w with state := .idle, next := none }
  else { w with state := .stalled, next := w.next.map (· + 8 * interval) }

/-- The deadlines that have passed by a moment (R62): each want concerned becomes IDLE, or STALLED with a notice. One
happening takes them all, and the notices come in ascending key order (DESIGN CHOICE, notes/assumptions/26.md). -/
def State.wantsExpire (s : State) (t : Nat) : State :=
  let stalled := s.repl.wants.filter fun w => w.expired t && 6 ≤ w.asks
  let s := { s with repl := { s.repl with
      wants := s.repl.wants.map fun w => if w.expired t then w.afterDeadline s.cfg.interval else w } }
  stalled.foldl (fun s w => s.post (.wantStalled w.key)) s

/-- The want of a key. -/
def State.want? (s : State) (k : Key) : Option Want := s.repl.wants.find? fun w => w.key == k

/-- WANT_DEADLINE (R62): the deadline of a key, and of those that were asked with it. -/
def execWantDeadline (k : Key) (s : State) : Host.Outcome State Fault Refusal :=
  .next
    (match s.want? k with
    | some ⟨_, .asked, _, some t⟩ => if s.awake then ((s.reach t).wantsExpire t).settle else s
    | _ => s)

/-- STALLED_REASK_DUE (R63): the asking takes the due entries. -/
def execStalledReaskDue (k : Key) (s : State) : Host.Outcome State Fault Refusal :=
  .next
    (match s.want? k with
    | some ⟨_, .stalled, _, some t⟩ => if s.awake then (s.reach t).settle else s
    | _ => s)

/-- The deadline of the fetch's ask has passed (R70). -/
def State.fetchExpires (s : State) (f : Fetch) : State :=
  if f.ask < 3 then s.askFetch { f with ask := f.ask + 1, deadline := none } else s.endFetch .unreachable []

/-- FETCH_DEADLINE (R70). -/
def execFetchDeadline (s : State) : Host.Outcome State Fault Refusal :=
  .next
    (match s.repl.fetch with
    | some f =>
      match f.deadline with
      | some t => if s.awake then ((s.reach t).fetchExpires f).settle else s
      | none => s
    | none => s)

end Sys2Proof.Machine
end

