-- ==== Sys2Proof/Machine/Dispatch.lean ====
section
/-! DEFINITION. The effect of each command on everything but the queue: one arm for each row of the table. -/

namespace Sys2Proof.Machine

def exec (i : Instr) (s : State) : Host.Outcome State Fault Refusal :=
  match i with
  | .powerOn => Sys2Proof.Machine.execPowerOn s
  | .resetLow => Sys2Proof.Machine.execResetLow s
  | .resetRise => Sys2Proof.Machine.execResetRise s
  | .stoppingEnd => Sys2Proof.Machine.execStoppingEnd s
  | .configurationReadEnd errors => Sys2Proof.Machine.execConfigurationReadEnd errors s
  | .configurationWriteEnd ok => Sys2Proof.Machine.execConfigurationWriteEnd ok s
  | .scanHeaderReadEnd disturbed => Sys2Proof.Machine.execScanHeaderReadEnd disturbed s
  | .scanMarkReadEnd errors => Sys2Proof.Machine.execScanMarkReadEnd errors s
  | .selectFallCmdDiscard bytes => Sys2Proof.Machine.execSelectFallCmdDiscard bytes s
  | .selectRise => Sys2Proof.Machine.execSelectRise s
  | .responseClockedOut => Sys2Proof.Machine.execResponseClockedOut s
  | .badCmd code => Sys2Proof.Machine.execBadCmd code s
  | .status => Sys2Proof.Machine.execStatus s
  | .notice => Sys2Proof.Machine.execNotice s
  | .counts => Sys2Proof.Machine.execCounts s
  | .peer n => Sys2Proof.Machine.execPeer n s
  | .origin n => Sys2Proof.Machine.execOrigin n s
  | .publish length payload => Sys2Proof.Machine.execPublish length payload s
  | .read o seq => Sys2Proof.Machine.execRead o seq s
  | .take => Sys2Proof.Machine.execTake s
  | .retire floor => Sys2Proof.Machine.execRetire floor s
  | .configure record => Sys2Proof.Machine.execConfigure record s
  | .restart => Sys2Proof.Machine.execRestart s
  | .frameEndGap => Sys2Proof.Machine.execFrameEndGap s
  | .symbolError fault => Sys2Proof.Machine.execSymbolError fault s
  | .strayLow width => Sys2Proof.Machine.execStrayLow width s
  | .frameStart high width => Sys2Proof.Machine.execFrameStart high width s
  | .recoveryPeriodEnd => Sys2Proof.Machine.execRecoveryPeriodEnd s
  | .lineBreak => Sys2Proof.Machine.execLineBreak s
  | .lineStuck => Sys2Proof.Machine.execLineStuck s
  | .lineStuckClear => Sys2Proof.Machine.execLineStuckClear s
  | .startMoment fallen => Sys2Proof.Machine.execStartMoment fallen s
  | .arbitrationLoss => Sys2Proof.Machine.execArbitrationLoss s
  | .collision => Sys2Proof.Machine.execCollision s
  | .sentToEnd => Sys2Proof.Machine.execSentToEnd s
  | .ackPulse => Sys2Proof.Machine.execAckPulse s
  | .ackPulseEnd => Sys2Proof.Machine.execAckPulseEnd s
  | .ackWindowEnd => Sys2Proof.Machine.execAckWindowEnd s
  | .breakEnd => Sys2Proof.Machine.execBreakEnd s
  | .earliestStartPasses target => Sys2Proof.Machine.execEarliestStartPasses target s
  | .silenceTimeout p => Sys2Proof.Machine.execSilenceTimeout p s
  | .beaconTimerExpiry => Sys2Proof.Machine.execBeaconTimerExpiry s
  | .listeningEnd => Sys2Proof.Machine.execListeningEnd s
  | .joinLimit => Sys2Proof.Machine.execJoinLimit s
  | .wantDeadline k => Sys2Proof.Machine.execWantDeadline k s
  | .stalledReaskDue k => Sys2Proof.Machine.execStalledReaskDue k s
  | .fetchDeadline => Sys2Proof.Machine.execFetchDeadline s
  | .pageReadEnd errors => Sys2Proof.Machine.execPageReadEnd errors s
  | .pageProgramEnd ok => Sys2Proof.Machine.execPageProgramEnd ok s
  | .tagProgramEnd ok => Sys2Proof.Machine.execTagProgramEnd ok s
  | .eraseEnd ok => Sys2Proof.Machine.execEraseEnd ok s
  | .dataBit gap width => Sys2Proof.Machine.execDataBit gap width s
  | .driveNextSymbol => Sys2Proof.Machine.execDriveNextSymbol s
  | .ackSlotSampling slot low => Sys2Proof.Machine.execAckSlotSampling slot low s

end Sys2Proof.Machine
end

