-- ==== Sys2Proof/Safety.lean ====
section
/-! DEFINITION. What a safe state is: the laws that the manual states for every moment of a run, and the words in which
the statements speak of commands, answers, notices and starts. -/

namespace Sys2Proof

/-! ## Groups of commands -/

/-- The commands that end a run: a cold start (R150) and the end of the stopping of a warm start (R151). -/
def Instr.endsRun : Instr → Bool
  | .powerOn | .resetLow | .stoppingEnd => true
  | .resetRise | .configurationReadEnd _ | .configurationWriteEnd _ | .scanHeaderReadEnd _ | .scanMarkReadEnd _
  | .selectFallCmdDiscard _ | .selectRise | .responseClockedOut | .badCmd _ | .status | .notice | .counts | .peer _
  | .origin _ | .publish _ _ | .read _ _ | .take | .retire _ | .configure _ | .restart | .frameEndGap
  | .symbolError _ | .strayLow _ | .frameStart _ _ | .recoveryPeriodEnd | .lineBreak | .lineStuck | .lineStuckClear
  | .startMoment _ | .arbitrationLoss | .collision | .sentToEnd | .ackPulse | .ackPulseEnd | .ackWindowEnd
  | .breakEnd | .earliestStartPasses _ | .silenceTimeout _ | .beaconTimerExpiry | .listeningEnd | .joinLimit
  | .wantDeadline _ | .stalledReaskDue _ | .fetchDeadline | .pageReadEnd _ | .pageProgramEnd _ | .tagProgramEnd _
  | .eraseEnd _ | .dataBit _ _ | .driveNextSymbol | .ackSlotSampling _ _ => false

/-- The ends of the operations that a start sequence makes outside the arbiter (R152, R154, R157). -/
def Instr.endsStartStep : Instr → Bool
  | .configurationReadEnd _ | .scanHeaderReadEnd _ | .scanMarkReadEnd _ => true
  | .powerOn | .resetLow | .resetRise | .stoppingEnd | .configurationWriteEnd _ | .selectFallCmdDiscard _
  | .selectRise | .responseClockedOut | .badCmd _ | .status | .notice | .counts | .peer _ | .origin _ | .publish _ _
  | .read _ _ | .take | .retire _ | .configure _ | .restart | .frameEndGap | .symbolError _ | .strayLow _
  | .frameStart _ _ | .recoveryPeriodEnd | .lineBreak | .lineStuck | .lineStuckClear | .startMoment _
  | .arbitrationLoss | .collision | .sentToEnd | .ackPulse | .ackPulseEnd | .ackWindowEnd | .breakEnd
  | .earliestStartPasses _ | .silenceTimeout _ | .beaconTimerExpiry | .listeningEnd | .joinLimit | .wantDeadline _
  | .stalledReaskDue _ | .fetchDeadline | .pageReadEnd _ | .pageProgramEnd _ | .tagProgramEnd _ | .eraseEnd _
  | .dataBit _ _ | .driveNextSymbol | .ackSlotSampling _ _ => false

/-- The commands that RESET held low does not hold back (R150): the starts and the rise of the SEL pin. -/
def Instr.movesReset : Instr → Bool
  | .powerOn | .resetLow | .resetRise | .selectRise => true
  | .stoppingEnd | .configurationReadEnd _ | .configurationWriteEnd _ | .scanHeaderReadEnd _ | .scanMarkReadEnd _
  | .selectFallCmdDiscard _ | .responseClockedOut | .badCmd _ | .status | .notice | .counts | .peer _
  | .origin _ | .publish _ _ | .read _ _ | .take | .retire _ | .configure _ | .restart | .frameEndGap
  | .symbolError _ | .strayLow _ | .frameStart _ _ | .recoveryPeriodEnd | .lineBreak | .lineStuck | .lineStuckClear
  | .startMoment _ | .arbitrationLoss | .collision | .sentToEnd | .ackPulse | .ackPulseEnd | .ackWindowEnd
  | .breakEnd | .earliestStartPasses _ | .silenceTimeout _ | .beaconTimerExpiry | .listeningEnd | .joinLimit
  | .wantDeadline _ | .stalledReaskDue _ | .fetchDeadline | .pageReadEnd _ | .pageProgramEnd _ | .tagProgramEnd _
  | .eraseEnd _ | .dataBit _ _ | .driveNextSymbol | .ackSlotSampling _ _ => false

/-! ## Keys -/

/-- One key before another in the order of section 1.1. -/
def Key.before (a b : Key) : Prop := a.le b = true ∧ a ≠ b

/-! ## The host's commands as bytes -/

/-- The bytes that the host sends for a command of the port: its code and its arguments (section 11.4). A CONFIGURE has
seven record bytes, and a byte that is a command code is no BAD_CMD. -/
def Instr.hostBytes? : Instr → Option (Byte × List Byte)
  | .badCmd code => if Machine.commandCodes.contains code then none else some (code, [])
  | .status => some (Machine.codeStatus, [])
  | .notice => some (Machine.codeNotice, [])
  | .counts => some (Machine.codeCounts, [])
  | .peer n => some (Machine.codePeer, [n])
  | .origin n => some (Machine.codeOrigin, [n])
  | .publish length payload =>
    some (Machine.codePublish, Machine.bytes2 length.toNat ++ if Machine.lengthGood length.toNat then payload else [])
  | .read o q => some (Machine.codeRead, o :: Machine.bytes3 q.toNat)
  | .take => some (Machine.codeTake, [])
  | .retire f => some (Machine.codeRetire, Machine.bytes3 f.toNat)
  | .configure record => if record.length = 7 then some (Machine.codeConfigure, record) else none
  | .restart => some (Machine.codeRestart, [])
  | .powerOn | .resetLow | .resetRise | .stoppingEnd | .configurationReadEnd _ | .configurationWriteEnd _
  | .scanHeaderReadEnd _ | .scanMarkReadEnd _ | .selectFallCmdDiscard _ | .selectRise | .responseClockedOut
  | .frameEndGap | .symbolError _ | .strayLow _ | .frameStart _ _ | .recoveryPeriodEnd | .lineBreak | .lineStuck
  | .lineStuckClear | .startMoment _ | .arbitrationLoss | .collision | .sentToEnd | .ackPulse | .ackPulseEnd
  | .ackWindowEnd | .breakEnd | .earliestStartPasses _ | .silenceTimeout _ | .beaconTimerExpiry | .listeningEnd
  | .joinLimit | .wantDeadline _ | .stalledReaskDue _ | .fetchDeadline | .pageReadEnd _ | .pageProgramEnd _
  | .tagProgramEnd _ | .eraseEnd _ | .dataBit _ _ | .driveNextSymbol | .ackSlotSampling _ _ => none

/-- The states in which a command of the port is accepted (R167); a byte that is no command code is answered
BAD_CMD in every one (R166). -/
def Instr.acceptingStates : Instr → List Machine.StationState
  | .badCmd _ | .status | .notice | .restart =>
    [.unconfigured, .configFault, .scanning, .listening, .joining, .active, .mute, .withdrawn]
  | .counts => [.scanning, .listening, .joining, .active, .mute, .withdrawn]
  | .peer _ | .origin _ | .read _ _ | .take => [.listening, .joining, .active, .mute, .withdrawn]
  | .publish _ _ => [.active]
  | .retire _ => [.joining, .active]
  | .configure _ => [.unconfigured, .configFault]
  | .powerOn | .resetLow | .resetRise | .stoppingEnd | .configurationReadEnd _ | .configurationWriteEnd _
  | .scanHeaderReadEnd _ | .scanMarkReadEnd _ | .selectFallCmdDiscard _ | .selectRise | .responseClockedOut
  | .frameEndGap | .symbolError _ | .strayLow _ | .frameStart _ _ | .recoveryPeriodEnd | .lineBreak | .lineStuck
  | .lineStuckClear | .startMoment _ | .arbitrationLoss | .collision | .sentToEnd | .ackPulse | .ackPulseEnd
  | .ackWindowEnd | .breakEnd | .earliestStartPasses _ | .silenceTimeout _ | .beaconTimerExpiry | .listeningEnd
  | .joinLimit | .wantDeadline _ | .stalledReaskDue _ | .fetchDeadline | .pageReadEnd _ | .pageProgramEnd _
  | .tagProgramEnd _ | .eraseEnd _ | .dataBit _ _ | .driveNextSymbol | .ackSlotSampling _ _ => []

end Sys2Proof

namespace Sys2Proof.Machine

/-! ## Laws of a state -/

/-- The law of the Notice Queue (R171): it never holds more than 16 notices, and ATTN is low exactly while it holds one. -/
def Port.noticesLaw (p : Port) : Prop := p.notices.length ≤ 16 ∧ p.attn = !p.notices.isEmpty

/-- The flash contents stand in their canonical form. -/
def Flash.law (f : Flash) : Prop := f.slots.wf = true ∧ f.tags.wf = true

/-- Whether the slot that an operation programs, or the tag, is torn: it reads INVALID, or UNCORRECTABLE in block 0, if the
operation is cut or fails (R134, R150, R178; DEDUCED, notes/assumptions/11.md). -/
def ArrayOp.torn (op : ArrayOp) (f : Flash) : Prop :=
  match op with
  | .program _ _ l _ => f.slots.read l.number = some .torn
  | .tag _ b _ _ => f.tags.read b.val = some .torn
  | .configWrite slot _ => f.slots.read slot.val = some .torn
  | .read _ _ _ | .erase _ | .scanTag _ | .scanSlot _ | .scanMark _ _ | .configRead => True

/-- The law of the running operation: its slot or tag is torn from the grant on. -/
def State.tornLaw (s : State) : Prop := ∀ r, s.array.running = some r → r.op.torn s.array.flash

/-- The law of the Want List (R59): at most 64 entries, in strictly ascending key order and so without duplicates. -/
def wantsLaw (ws : List Want) : Prop := ws.length ≤ 64 ∧ ws.Pairwise fun v w => Key.before v.key w.key

/-- The law of the line counters (R95): each holds 0 to 65,535. -/
def Counters.law (c : Counters) : Prop :=
  c.symbol ≤ 65535 ∧ c.crc ≤ 65535 ∧ c.truncated ≤ 65535 ∧ c.format ≤ 65535 ∧ c.foreign ≤ 65535 ∧ c.arbLoss ≤ 65535 ∧
    c.collision ≤ 65535 ∧ c.lineBreak ≤ 65535

/-- The law of the directory's entries (R16, R21): in strictly ascending key order, so at most one for a key, and none
below the floor of its origin. -/
def Directory.law (d : Directory) : Prop :=
  (d.entries.Pairwise fun a b => Key.before a.key b.key) ∧
    ∀ e ∈ d.entries, (d.origins.get e.key.origin).floor ≤ e.key.seq

/-- The bounds of R1, R5 and R8: F is at least 1, H lies between F − 1 and K, and K has been told every key that has an
entry. -/
def Directory.heldLaw (d : Directory) : Prop :=
  (∀ o : Station, 1 ≤ (d.origins.get o).floor ∧ (d.origins.get o).floor ≤ (d.origins.get o).held + 1 ∧
    (d.origins.get o).held ≤ (d.origins.get o).known) ∧
  ∀ e ∈ d.entries, e.key.seq ≤ (d.origins.get e.key.origin).known

/-- A read that the scan makes (R154, R157). -/
def ArrayOp.ofScan : ArrayOp → Bool
  | .scanTag _ | .scanSlot _ | .scanMark _ _ => true
  | .read _ _ _ | .program _ _ _ _ | .tag _ _ _ _ | .erase _ | .configRead | .configWrite _ _ => false

/-- A station that has taken a record is a member of its roster (R152, R181); one that has taken none neither scans nor is
in LISTENING, JOINING or ACTIVE (R149). -/
def State.rosterLaw (s : State) : Prop :=
  match s.ctl.config with
  | some c => inMask c.roster c.number = true
  | none => s.ctl.state ∉ [.listening, .joining, .active] ∧ ∀ r, s.array.running = some r → r.op.ofScan = false

/-- The number of entries of a kind in a queue. -/
def kindCount (q : List TxEntry) (k : FrameKind) : Nat := (q.filter fun e => targetKind e.target == k).length

/-- The limits that R103 sets to the beacons and the answers of the Transmit Queue. -/
def queueLimits (q : List TxEntry) : Prop := kindCount q .beacon ≤ 1 ∧ kindCount q .repair ≤ 4

/-- Floors and frontiers have not fallen from one state to another (R5, R7). -/
def State.risesTo (s t : State) : Prop :=
  ∀ o : Station, (s.org o).floor ≤ (t.org o).floor ∧ (s.org o).known ≤ (t.org o).known

/-- A state of a safe run. -/
def State.safe (s : State) : Prop :=
  s.port.noticesLaw ∧ s.array.flash.law ∧ wantsLaw s.repl.wants ∧ s.line.counters.law ∧ s.dir.law ∧ s.dir.heldLaw ∧
    s.rosterLaw ∧ queueLimits s.engine.queue ∧ s.tornLaw

/-! ## Starts -/

/-- Every volatile structure outside the array manager holds its start value (R25, R42, R73, R74, R103, R135, R164). -/
def State.atStart (t : State) : Prop :=
  t.ctl = .start ∧ t.members = .start ∧ t.dir = .start ∧ t.repl = .start ∧ t.line = .start ∧ t.engine = .start ∧
    t.retire = .start ∧ t.port = .start

/-! ## The host's commands -/

/-- The port is ready to take a command: RESET is high, the station is not stopping, and no select period is open. -/
def State.hostReady (s : State) : Prop := s.resetLow = false ∧ s.ctl.stopping = false ∧ s.port.selected = false

/-- The port with a command taken and its response formed (R165). -/
def Port.answer (p : Port) (code : Byte) (args : List Byte) (st : Status) (bytes : List Byte) : Port :=
  { p with selected := true, decoder := code :: args, taken := true, response := some ⟨code, st.byte :: bytes, 0⟩ }

/-- The state with a command answered, SEL low, and nothing else changed. -/
def State.answered (s : State) (code : Byte) (args : List Byte) (st : Status) (bytes : List Byte) : State :=
  { s with selLow := true, port := s.port.answer code args st bytes }

/-! ## Notices -/

/-- With room in the Notice Queue, the notice `n` is the first that `t` holds beyond the notices of `s`. -/
def State.tells (s t : State) (n : Notice) : Prop :=
  s.port.notices.length < 16 → ∃ later, t.port.notices = s.port.notices ++ n :: later

/-! ## Reception -/

/-- The end gap that FRAME_END_GAP classifies is that of a frame of another station (R80, R100). -/
def State.frameEnds (s : State) : Prop :=
  s.resetLow = false ∧ s.ctl.config.isSome = true ∧ s.line.receiver = .receiving ∧ s.line.up = true ∧
    s.engine.sending = none

/-- The frame that ends passes every check of R100 as this message, in a station that takes frames (R28). -/
def State.hears (s : State) (m : Message) : Prop :=
  s.frameEnds ∧ s.ctl.stopping = false ∧ s.ctl.state ∈ [.listening, .joining, .active, .mute, .withdrawn] ∧
    truncated (s.line.bitCount.getD 0) s.line.expected = false ∧
    checkFrame s.cfg.tag s.cfg.roster (s.line.bitCount.getD 0) s.engine.assembly = .valid m

/-- The line interface after a valid frame (R80, R83, R88): IDLE with the threshold 6 U, or in the ack window of a PAGE
with R of 2 or more. -/
def State.lineAfter (s : State) (m : Message) : Line :=
  let l := { s.line with bitCount := none, expected := none, threshold := 6, idleRef := s.line.since }
  if m.kind = .page ∧ 2 ≤ s.cfg.factor then
    { l with receiver := .window, window := some ⟨s.line.since, false, 0⟩ }
  else { l with receiver := .idle }

/-! ## Frames -/

/-- The body bytes of a message (R97). -/
def Message.body : Message → List Byte
  | .beacon _ factor roster b => beaconBody factor roster b
  | .want _ o first count => wantBody o first count
  | .repair _ k payload => pageBody k payload
  | .page _ k payload => pageBody k payload

/-- The messages that a station of a roster can send (R97): their fields in the ranges of the manual. -/
def Message.fits (roster : BitVec 16) : Message → Prop
  | .beacon _ factor _ b =>
    factor < 256 ∧ b.published ≤ seqMax ∧ 1 ≤ b.floor ∧ b.floor ≤ seqMax ∧ b.items.length ≤ 4 ∧
      ∀ i ∈ b.items, i.2 ≤ seqMax
  | .want _ o first count => inMask roster o = true ∧ 1 ≤ first ∧ first ≤ seqMax ∧ 1 ≤ count ∧ count ≤ 8
  | .repair _ k payload =>
    inMask roster k.origin = true ∧ 1 ≤ k.seq ∧ k.seq ≤ seqMax ∧ 1 ≤ payload.length ∧ payload.length ≤ 256
  | .page p k payload => k.origin = p ∧ 1 ≤ k.seq ∧ k.seq ≤ seqMax ∧ 1 ≤ payload.length ∧ payload.length ≤ 256

/-- The bits of a frame after its START, for covered bits and a received check (R96, R98). -/
def codeword (covered : List Bool) (check : BitVec 16) : List Bool := covered ++ bitsOf 16 check.toNat

end Sys2Proof.Machine
end

