-- ==== Sys2Proof/Certificates/Slice0/Obligations.lean ====
section
/-! DEFINITION. The statements for the provers. Each docstring names the rules of spec/ that its statement formalises, and
the log entry where it rests on a choice of the model. Times are in ticks, sixteenths of a microsecond
(notes/assumptions/2.md). `u.settle` is `u` with what follows within the same happening: the array manager's
consequences, the requests, the JOINING exit and the grant (notes/assumptions/4.md). -/

open Sys2Proof Sys2Proof.Machine

/-! ## The machine -/

/-- A step takes the command at the front of the queue and runs it over the queue's rest: the tie of a step to the
meanings. That the commands wait in one queue, first in, first out, is the model's choice (notes/assumptions/13.md), and
so is the second clause (notes/assumptions/1.md): with no command waiting, a step lets one tick of the clock pass. -/
def Obligations.StepTakesTheFrontCommand : Prop :=
  (∀ (c : Instr) (rest : List Instr) (s : State), s.pending = c :: rest → step s = exec c { s with pending := rest }) ∧
  (∀ s : State, s.pending = [] → step s = .next { s with now := s.now + 1 })

/-- Every command, in every state, answers a next state and leaves the queue of waiting commands alone. It says
nothing of a command's own effect, and so is no completion statement. That a happening which cannot come in a state
answers as well is the model's choice (notes/assumptions/7.md), and so is the queue (notes/assumptions/13.md). -/
def Obligations.EveryCommandAnswersANextState : Prop :=
  ∀ (c : Instr) (s : State), ∃ t, exec c s = .next t ∧ t.pending = s.pending

/-- What a start leaves (R25, R26, R43, R56, R59, R69, R74, R102, R103, R109, R115, R117, R118, R133, R135, R146, R164),
RESET still low; it meets every law of a safe run. The stand-in rank 0, the record of block 0, reclaim's next slot 0,
SEL high, and UNCONFIGURED before the configuration read are the model's choices (notes/assumptions/12.md, 14.md), as is
the blank flash (notes/assumptions/5.md). -/
def Obligations.ResetHoldsTheStartValues : Prop :=
  let s := State.reset
  s.pending = [] ∧ s.resetLow = true ∧ s.selLow = false ∧ s.ctl.state = .unconfigured ∧ s.ctl.stopping = false ∧ s.ctl.config = none ∧
    (∀ o : Station, s.org o = ⟨.none, 0, 1, 0, 0, 0⟩ ∧ s.standin o = ⟨0, 0, 0⟩ ∧ s.designated o = [] ∧
      s.peer o = ⟨.absent, none, none⟩) ∧
    s.dir.entries = [] ∧ s.dir.mark = none ∧ s.members.beaconTimer = none ∧
    s.repl.publish.phase = .idle ∧ s.repl.publish.seq = 0 ∧ s.repl.publish.attempt = 0 ∧ s.repl.publish.best = 0 ∧
    s.repl.publish.outcome = none ∧ s.repl.publish.buffer = none ∧ s.repl.landing.queue = [] ∧
    (∀ i : Fin 4, s.repl.landing.buffers.get i = none) ∧ s.repl.wants = [] ∧ s.repl.fetch = none ∧
    s.line.receiver = .recovering ∧ s.line.bitCount = none ∧ s.line.tx = .quiet ∧ s.line.driven = false ∧
    s.line.window = none ∧ s.line.pendingAck = none ∧ s.line.stuck = false ∧
    s.line.counters = ⟨0, 0, 0, 0, 0, 0, 0, 0⟩ ∧ s.engine.queue = [] ∧ s.engine.sending = none ∧
    s.engine.staging = none ∧ s.engineState = .idle ∧ (∀ b : Block, s.block b = ⟨.closed, 32, 0, false, false⟩) ∧
    s.array.freeList = [] ∧
    s.array.badTable = [] ∧ s.array.nextStamp = 1 ∧ s.array.running = none ∧ s.array.failure = ⟨[], none, none⟩ ∧
    s.array.reclaim = ⟨none, .search, 0, none, false⟩ ∧ s.array.full = false ∧ s.retire.marking = none ∧
    s.port.read = .idle ∧ s.port.readBuffer = none ∧ s.port.response = none ∧ s.port.decoder = [] ∧
    s.port.notices = [] ∧ s.port.overflow = false ∧ s.port.attn = false ∧ s.idleCount = 0 ∧ s.safe

/-! ## Laws that every step keeps -/

/-- Every step keeps the law of the Notice Queue and ATTN (R171). -/
def Obligations.NoticeQueueLawIsKept : Prop :=
  ∀ s t : State, step s = .next t → s.port.noticesLaw → t.port.noticesLaw

/-- Every step keeps the Want List within 64 entries and in strictly ascending key order (R59). -/
def Obligations.WantListLawIsKept : Prop :=
  ∀ s t : State, step s = .next t → wantsLaw s.repl.wants → wantsLaw t.repl.wants

/-- Every step keeps the directory's entries in strictly ascending key order and none below its floor (R16, R21). -/
def Obligations.DirectoryLawIsKept : Prop :=
  ∀ s t : State, step s = .next t → s.dir.law → t.dir.law

/-- Every step keeps F at least 1, F − 1 ≤ H ≤ K for every origin, and K no lower than any key that has an entry (R1,
R7, R8); and that a station with a record is a member of its roster, one without neither scanning nor storing (R149,
R152). -/
def Obligations.HeldThroughStaysBetweenFloorAndFrontier : Prop :=
  ∀ s t : State, step s = .next t → s.rosterLaw → t.rosterLaw ∧ (s.dir.heldLaw → t.dir.heldLaw)

/-- Within a run no floor and no known frontier falls (R5, R7): only the commands that end a run lower one. -/
def Obligations.FloorsAndFrontiersNeverFall : Prop :=
  ∀ (c : Instr) (s t : State), c.endsRun = false → exec c s = .next t → s.risesTo t

/-- Every step keeps at most 1 BEACON and 4 REPAIR entries in the Transmit Queue (R103), the flash contents in their
canonical form, and each line counter within 65,535 (R95). And it keeps the slot or tag torn that a running program, tag
program or configuration write is programming, which the model deduces (notes/assumptions/11.md). -/
def Obligations.QueueFlashAndCounterLawsAreKept : Prop :=
  ∀ s t : State, step s = .next t →
    (queueLimits s.engine.queue → queueLimits t.engine.queue) ∧ (s.array.flash.law → t.array.flash.law) ∧
      (s.line.counters.law → t.line.counters.law) ∧ (s.tornLaw → t.tornLaw)

/-- The configuration is kept for the whole run (R152): only a start and the configuration read change it. MUTE and
WITHDRAWN are left only by a start (R149, R162, R163), but for WITHDRAWN for MUTE (R29). -/
def Obligations.RunKeepsItsConfigurationAndItsEnd : Prop :=
  ∀ (c : Instr) (s t : State), c.endsRun = false → (∀ e, c ≠ .configurationReadEnd e) → exec c s = .next t →
    t.ctl.config = s.ctl.config ∧ t.dir.designated = s.dir.designated ∧
      (c.endsStartStep = false →
        (s.ctl.state = .mute → t.ctl.state = .mute) ∧
        (s.ctl.state = .withdrawn → t.ctl.state = .withdrawn ∨ t.ctl.state = .mute))

/-- What follows at the end of a happening leaves the line, the peers, the floors, the frontiers, the published
sequences, the frame in transmission, the mark entry and the open transaction alone (notes/assumptions/4.md). With no
copy or pending page waiting, the FULL flag (R146) is set, with FULL_CHANGE, at a free count of 1 or less when reclaim
has no victim and finds none; cleared, with FULL_CHANGE, at 3 or more; and otherwise stays. Below 8 free blocks the
victim search (R142) takes the lowest CLOSED block with the weak mark, or else the one of fewest live pages among those
with a stale slot, the lowest of equals; failing blocks are passed over. With the FULL flag set, reclaim takes over a
mark program request that has not been granted (R148). JOINING is left for ACTIVE, with a STATE notice, when the Want
List is empty, H is at least K for every SELF and DESIGNATED origin, and every other available member of D(self) has
sent a beacon (R160, R161); otherwise the state stays. -/
def Obligations.SettlingLeavesTheRestAlone : Prop :=
  (∀ s : State, s.settle.line = s.line ∧ s.settle.members.peers = s.members.peers ∧
    (∀ o : Station, (s.settle.org o).floor = (s.org o).floor ∧ (s.settle.org o).known = (s.org o).known ∧
      (s.settle.org o).published = (s.org o).published) ∧
    s.settle.engine.sending = s.engine.sending ∧ s.settle.engine.assembly = s.engine.assembly ∧
    s.settle.dir.mark = s.dir.mark ∧ s.settle.dir.designated = s.dir.designated ∧
    s.settle.array.badTable = s.array.badTable ∧ s.settle.now = s.now ∧ s.settle.resetLow = s.resetLow ∧
    s.settle.selLow = s.selLow ∧ s.settle.ctl.config = s.ctl.config ∧ s.settle.port.response = s.port.response ∧
    s.settle.port.selected = s.port.selected ∧ (s.awake = false ∨ s.running = false → s.settle = s)) ∧
  (∀ s : State, s.resetLow = false → s.ctl.stopping = false → s.ctl.state ∈ [.listening, .joining, .active, .mute] →
    s.array.exhausted = false → s.array.failure.page = none → s.array.failure.buffer = none →
    s.array.reclaim.buffer = none →
    let closed (b : Block) : Prop := 1 ≤ b.val ∧ (s.block b).state = .closed ∧ (s.block b).failing = false
    let weak (b : Block) : Prop := closed b ∧ (s.block b).weak = true
    let spare (b : Block) : Prop := closed b ∧ (s.block b).live < (s.block b).used
    let t := s.settle
    (s.array.full = false → s.freeCount ≤ 1 → s.array.reclaim.victim = none → (∀ b, ¬weak b ∧ ¬spare b) →
      t.array.full = true ∧ s.tells t (.fullChange true)) ∧
    (s.array.full = true → 3 ≤ s.freeCount → t.array.full = false ∧ s.tells t (.fullChange false)) ∧
    (s.array.full = false → 2 ≤ s.freeCount ∨ s.array.reclaim.victim ≠ none ∨ (∃ b, weak b ∨ spare b) →
      t.array.full = false) ∧
    (s.array.full = true → s.freeCount ≤ 2 → t.array.full = true) ∧
    (s.array.reclaim.victim = none → s.freeCount < 8 → ∀ v,
      (weak v ∧ (∀ b, weak b → v ≤ b)) ∨
        ((∀ b, ¬weak b) ∧ spare v ∧ ∀ b, spare b →
          (s.block v).live < (s.block b).live ∨ (s.block v).live = (s.block b).live ∧ v ≤ b) →
      t.array.reclaim.victim = some v ∧ (t.block v).state = .victim) ∧
    (s.retire.requested = true →
      (t.array.full = true → t.retire = { s.retire with requested := false } ∧ t.array.reclaim.mark = true) ∧
      (t.array.full = false → t.array.reclaim.mark = s.array.reclaim.mark)) ∧
    (s.ctl.state = .joining → s.array.full = false → 2 ≤ s.freeCount →
      let complete : Prop := s.repl.wants = [] ∧
        ∀ o : Station, (s.org o).role = .self ∨ (s.org o).role = .designated → (s.org o).known ≤ (s.org o).held
      let heard : Prop := ∀ p ∈ s.designated s.self, p ≠ s.self → s.available p = true → (s.peer p).beacon ≠ none
      (complete ∧ heard →
        t.ctl = { s.ctl with state := .active, since := s.now } ∧ s.tells t (.state .active)) ∧
      (¬(complete ∧ heard) → t.ctl = s.ctl)))

/-- Stand-in duty (R12 to R14): an evaluation makes the station stand, with rank k, for an origin of whose designated
set it is no member, when it is the k-th available roster member outside the set, in cyclic order from its end, and at
least k holders but the origin are unavailable; these join the mask of the stand-in record. Otherwise it stands for
the origin no more. What makes the view, and the roles of the other origins, stay. The rank 0 of an origin it does not
stand for is the model's choice (notes/assumptions/14.md). Stand-in release (R72): the check of a record with pages
releases every STANDIN entry of its origin, and no other, when each station of its mask is available and has
advertised a held-through at or above the to-seq, or the floor is above the to-seq; the record is then empty, or while
the station still stands has the missing holders as its mask. Otherwise the check does nothing. That either of two H
items for the origin will do is the model's choice (notes/assumptions/24.md). -/
def Obligations.StandInDutyFollowsTheView : Prop :=
  (∀ (s : State) (o : Station), s.ctl.state ∈ [.listening, .joining, .active, .mute, .withdrawn] →
    (s.inRoster o = true → ∀ last, (s.designated o).getLast? = some last → s.self ∉ s.designated o →
      let missing := ((s.designated o).drop 1).filter fun p => !s.available p
      let others := ((List.range 15).map fun i => last + Fin.ofNat 16 (i + 1)).filter fun p =>
        s.inRoster p && !(s.designated o).contains p && s.available p
      let k := others.idxOf s.self + 1
      (s.self ∈ others ∧ k ≤ missing.length →
        (s.evaluate.org o).role = .standin ∧ (s.evaluate.org o).rank = k ∧
          (s.evaluate.standin o).fromSeq = (s.standin o).fromSeq ∧
          ∀ p ∈ missing, inMask (s.evaluate.standin o).mask p = true) ∧
      (¬(s.self ∈ others ∧ k ≤ missing.length) → (s.org o).role = .standin →
        (s.evaluate.org o).role = .none ∧ (s.evaluate.org o).rank = 0)) ∧
    (s.inRoster o = false ∨ s.self ∈ s.designated o → s.evaluate.org o = s.org o) ∧
    s.evaluate.members = s.members ∧ s.evaluate.ctl = s.ctl ∧ s.evaluate.array.full = s.array.full ∧
    s.evaluate.dir.designated = s.dir.designated) ∧
  (∀ (s : State) (o : Station), s.dir.law →
    let r := s.standin o
    let caughtUp (p : Station) : Prop :=
      s.available p = true ∧ ∃ b, (s.peer p).beacon = some b ∧ ∃ i ∈ b.items, i.1 = o ∧ r.toSeq ≤ i.2
    let due : Prop := r.fromSeq ≠ 0 ∧ ((∀ p, inMask r.mask p = true → caughtUp p) ∨ r.toSeq < (s.org o).floor)
    let t := s.releaseCheck o
    (¬due → t = s) ∧
    (due →
      (∀ (k : Key) (e : Entry), s.entry? k = some e →
        t.entry? k = if k.origin = o ∧ e.role = .standin then none else some e) ∧
      (∀ k : Key, s.entry? k = none → t.entry? k = none) ∧
      (t.standin o).fromSeq = 0 ∧ (t.standin o).toSeq = 0 ∧
      (∀ p, inMask (t.standin o).mask p = true ↔
        (s.org o).role = .standin ∧ p ∈ (s.designated o).drop 1 ∧ s.available p = false) ∧
      (∀ q, q ≠ o → t.standin q = s.standin q) ∧
      (∀ q : Station, (t.org q).role = (s.org q).role ∧ (t.org q).floor = (s.org q).floor ∧
        (t.org q).known = (s.org q).known) ∧
      (s.port.readRequested = false → t.port.notices = s.port.notices)))

/-! ## Formats -/

/-- A frame built for a message and received whole is that message (R96 to R101). -/
def Obligations.BuiltFrameIsReceivedAsItsMessage : Prop :=
  ∀ (tag : Byte) (roster : BitVec 16) (m : Message), inMask roster m.sender = true → m.fits roster →
    checkFrame tag roster (expectedBits m.body.length)
      (Assembly.empty.pushAll 0 (frameBits m.kind m.sender tag m.body)) = .valid m

/-- The check of R98 catches every error confined to a run of 16 or fewer bits, and every odd number of bit errors: a
frame so changed, of the same length, does not meet its check. -/
def Obligations.CheckCatchesBurstsAndOddErrors : Prop :=
  ∀ (sent got : List Bool) (check : BitVec 16), sent.length = got.length →
    ((∃ before run run' after, codeword sent (crcOf sent) = before ++ run ++ after ∧
        codeword got check = before ++ run' ++ after ∧ run.length = run'.length ∧ run.length ≤ 16 ∧ run ≠ run') ∨
      ((List.zip (codeword sent (crcOf sent)) (codeword got check)).countP fun e => e.1 != e.2) % 2 = 1) →
    crcOf got ≠ check

/-- Headers, RETIRED tags and configuration records read back as they were written (R180, R181). -/
def Obligations.FlashLayoutsReadBack : Prop :=
  (∀ h : PageHeader, h.seq ≤ seqMax → h.role ≠ .none → 1 ≤ h.length → h.length ≤ 256 → h.stamp ≤ stampMax →
    h.encode.length = 13 ∧ decodeHeader h.encode = .valid h) ∧
  (∀ (reason : StorageReason) (stamp : Nat), reason ∈ [.program, .erase, .weak] → stamp ≤ stampMax →
    (encodeRetired reason stamp).length = 8 ∧ decodeTag (encodeRetired reason stamp) = .retired reason stamp) ∧
  (∀ record : List Byte, record.length = 7 → checkRecord (withCheck record) = decodeRecord record)

/-- The record tests of CONFIGURE and of a start (R181). -/
def Obligations.RecordTestsReadTheBytes : Prop :=
  (∀ b0 b1 b2 b3 b4 b5 b6 : Byte,
    let roster : BitVec 16 := b2 ++ b3
    decodeRecord [b0, b1, b2, b3, b4, b5, b6] =
      if b1.toNat < 16 ∧ roster.getLsbD b1.toNat = true ∧ 1 ≤ b4.toNat ∧ b4.toNat ≤ 4 ∧
          b4.toNat ≤ ((List.range 16).filter roster.getLsbD).length ∧ b5.toNat ≤ 3 ∧ b6.toNat ≤ 15 then
        some ⟨b0, Fin.ofNat 16 b1.toNat, roster, b4.toNat, b5.toNat, b6.toNat⟩
      else none) ∧
  (∀ (record : List Byte) (s : State), record.length = 7 → s.hostReady → s.recordBusy = false →
    s.ctl.state = .unconfigured ∨ s.ctl.state = .configFault → decodeRecord record = none →
    exec (.configure record) s = .next (s.answered 0x20 record .badArg [])) ∧
  (∀ (record check data : List Byte) (errors started : Nat) (s : State), record.length = 7 → check.length = 2 →
    s.resetLow = false → s.ctl.stopping = false → s.array.running = some ⟨.configRead, started⟩ →
    s.array.flash.newestRecord = some (.written (record ++ check) data) →
    decodeRecord record = none ∨ word2At check 0 ≠ (crcOf (bitsOfBytes record)).toNat →
    ∃ t, exec (.configurationReadEnd errors) s = .next t ∧ t.ctl.state = .configFault ∧ t.ctl.config = s.ctl.config)

/-- Designated sets (R2): for a good record, D(o) of a roster member is o followed by the next R − 1 roster members in
cyclic order, R distinct members; the station computes the sets when it takes its record, and keeps them; a number
outside the roster has none. -/
def Obligations.DesignatedSetsFollowTheRoster : Prop :=
  (∀ (roster : BitVec 16) (factor : Nat) (o : Station), 1 ≤ factor → factor ≤ rosterSize roster →
    inMask roster o = true →
    designatedSet roster factor o =
      ((List.range 16).map (fun i => o + Fin.ofNat 16 i) |>.filter (inMask roster)).take factor ∧
    (designatedSet roster factor o).length = factor ∧ (designatedSet roster factor o).Nodup ∧
    (designatedSet roster factor o).head? = some o ∧ ∀ p ∈ designatedSet roster factor o, inMask roster p = true) ∧
  (∀ (errors started : Nat) (s : State) (cell : FlashCell) (r : ConfigRecord), s.resetLow = false →
    s.ctl.stopping = false → s.array.running = some ⟨.configRead, started⟩ →
    s.array.flash.newestRecord = some cell → cell.record errors = some r →
    ∃ t, exec (.configurationReadEnd errors) s = .next t ∧ t.ctl.state = .scanning ∧
      ∀ o : Station, t.designated o = designatedSet r.roster r.factor o ∧
        (inMask r.roster o = false → t.designated o = [])) ∧
  (∀ (c : Instr) (s t : State), c.endsRun = false → (∀ e, c ≠ .configurationReadEnd e) → exec c s = .next t →
    t.dir.designated = s.dir.designated)

/-! ## Starts -/

/-- POWER_ON and RESET_LOW take a cold start at once (R150): every volatile structure takes its start value, the idle
count 0 (R74) among them; the flash keeps its contents, but for a block whose erase was running, of which some slots then read INVALID and others blank,
and the tag INVALID or blank (R134). After POWER_ON the configuration read runs; while RESET is low nothing does. A
slot or tag whose program was cut reads INVALID, and a configuration record UNCORRECTABLE: the model deduces that it is
torn from the grant on (notes/assumptions/11.md), which is the premise on the running operation. The fields that no
rule names take the model's values (notes/assumptions/14.md), and that RESET is high at POWER_ON and the 10 µs pass on
the clock are its choices too (notes/assumptions/3.md, 8.md). -/
def Obligations.ColdStartClearsTheStation : Prop :=
  ∀ s : State, ∃ t u, exec .powerOn s = .next t ∧ exec .resetLow s = .next u ∧
    t.resetLow = false ∧ u.resetLow = true ∧ t.now = s.now ∧ u.now = s.now + 160 ∧
    t.array.running = some ⟨.configRead, s.now⟩ ∧ u.array.running = none ∧
    ∀ x ∈ [t, u], x.atStart ∧ x.idleCount = 0 ∧ x.selLow = s.selLow ∧
      x.array = { ArrayManager.start x.array.flash x.array.erasesLost with running := x.array.running } ∧
      ((∀ b started, s.array.running ≠ some ⟨.erase b, started⟩) → x.array.flash = s.array.flash) ∧
      (∀ b started, s.array.running = some ⟨.erase b, started⟩ →
        (∀ a, (if a / 32 = b.val then
            x.array.flash.slots.read a = none ∨ x.array.flash.slots.read a = some .torn
          else x.array.flash.slots.read a = s.array.flash.slots.read a) ∧
          if a = b.val then x.array.flash.tags.read a = none ∨ x.array.flash.tags.read a = some .torn
          else x.array.flash.tags.read a = s.array.flash.tags.read a) ∧
        ∃ i j : Slot, x.headerRead ⟨b, i⟩ false = .invalid ∧ x.headerRead ⟨b, j⟩ false = .blank) ∧
      (s.tornLaw → ∀ (op : ArrayOp) (started : Nat), s.array.running = some ⟨op, started⟩ →
        match op with
        | .program _ _ l _ => ∀ disturbed, x.headerRead l disturbed = .invalid
        | .tag _ b _ _ => ∀ disturbed, x.tagRead b disturbed = .invalid
        | .configWrite slot _ =>
          ∃ cell, x.array.flash.slots.read slot.val = some cell ∧ ∀ errors, cell.record errors = none
        | .read _ _ _ | .erase _ | .scanTag _ | .scanSlot _ | .scanMark _ _ | .configRead => True)

/-- RESET_RISE begins the start sequence with the configuration read, and changes nothing else (R150, R152). While RESET
stays low, the station stays as it is (R150), but for the level of the SEL pin. -/
def Obligations.ResetHoldsTheStationUntilItRises : Prop :=
  (∀ s : State, s.resetLow = true →
    exec .resetRise s =
      .next { s with resetLow := false, array := { s.array with running := some ⟨.configRead, s.now⟩ } }) ∧
  (∀ s : State, s.resetLow = true → exec .selectRise s = .next { s with selLow := false }) ∧
  (∀ (c : Instr) (s : State), s.resetLow = true → c.movesReset = false → exec c s = .next s)

/-- STOPPING_END (R151): when the break, the ack pulse and the array operation have ended, every volatile structure
takes its start value, the idle count among them (R74), the flash keeps its contents, and the configuration read runs. The
fields that no rule names
take the model's values (notes/assumptions/14.md). -/
def Obligations.StoppingEndsInAStart : Prop :=
  ∀ s : State, s.resetLow = false → s.ctl.stopping = true → s.line.tx ≠ .breaking → s.line.driven = false →
    s.array.running = none →
    ∃ t, exec .stoppingEnd s = .next t ∧ t.atStart ∧ t.idleCount = 0 ∧ t.resetLow = false ∧ t.selLow = s.selLow ∧ t.now = s.now ∧
      t.array = { ArrayManager.start s.array.flash s.array.erasesLost with running := some ⟨.configRead, s.now⟩ }

/-- SELECT_RISE at the end of a RESTART transaction takes the warm start (R179, R151): the station is stopping; one that
is transmitting begins its break, which a low under way goes on into (R92), and another empties its queue, its staging
buffer held only by a read that is running (R109), and drops an ack not yet begun (R89); the array operation, the directory, the peers and the notices stay as they are until the
stopping has ended. -/
def Obligations.RestartTakesAWarmStartWhenSelectRises : Prop :=
  ∀ (s : State) (r : Response), s.resetLow = false → s.ctl.stopping = false → s.port.selected = true →
    s.port.response = some r → r.code = codeRestart →
    ∃ t, exec .selectRise s = .next t ∧ t.ctl = { s.ctl with stopping := true } ∧
      t.port = { s.port with selected := false, decoder := [], taken := false, response := none } ∧
      t.members = s.members ∧ t.dir = s.dir ∧ t.repl = s.repl ∧ t.array = s.array ∧ t.retire = s.retire ∧
      t.now = s.now ∧ t.resetLow = false ∧ t.selLow = false ∧ t.engine.sending = none ∧
      t.engine.assembly = s.engine.assembly ∧
      if s.line.tx = .starting ∨ s.line.tx = .arbitrating ∨ s.line.tx = .sending then
        t.engine.queue = s.engine.queue ∧ t.engine.staging = s.engine.staging ∧
          t.line = { s.line with window := none, tx := .breaking, driven := true, txSince := s.now }
      else
        t.engine.queue = [] ∧
          t.engine.staging = (s.engine.staging.bind fun b =>
            if b.phase = .reading then some { b with dropped := true } else none) ∧
          t.line =
            if s.line.driven then { s.line with window := none }
            else { s.line with
              window := none, pendingAck := none, tx := if s.line.tx = .acking then .quiet else s.line.tx }

/-- CONFIGURATION_READ_END (R152): the newest record decides the state, with a STATE notice. A record that cannot be
read or fails its check gives CONFIG_FAULT, none UNCONFIGURED, and a good one SCANNING: its values are taken, the
roles set (R3), the own entry LIVE (R27), the line interface active (R74), and the header read of the tag of block 1
begun (R154). That the line is taken to be high at that moment is the model's choice (notes/assumptions/9.md). The
clock moves to the due moment (notes/assumptions/3.md). -/
def Obligations.ConfigurationReadChoosesTheState : Prop :=
  ∀ (errors started : Nat) (s : State), s.resetLow = false → s.ctl.stopping = false →
    s.array.running = some ⟨.configRead, started⟩ →
    ∃ t, exec (.configurationReadEnd errors) s = .next t ∧ t.now = max s.now (started + 800) ∧
      t.array.flash = s.array.flash ∧ s.tells t (.state t.ctl.state) ∧
      match s.array.flash.newestRecord.map fun c => c.record errors with
      | none =>
        t.ctl.state = .unconfigured ∧ t.ctl.config = s.ctl.config ∧ t.dir = s.dir ∧ t.line = s.line ∧
          t.array.running = none
      | some none =>
        t.ctl.state = .configFault ∧ t.ctl.config = s.ctl.config ∧ t.dir = s.dir ∧ t.line = s.line ∧
          t.array.running = none
      | some (some r) =>
        t.ctl.state = .scanning ∧ t.ctl.config = some r ∧ t.idleCount = 0 ∧ (t.peer r.number).state = .live ∧
          t.line = { Line.start with
            since := t.now, idleRef := t.now, threshold := raised r.factor, recovery := raised r.factor } ∧
          t.array.running = some ⟨.scanTag 1, t.now⟩ ∧
          ∀ o : Station, (t.org o).role =
            if (designatedSet r.roster r.factor o).contains r.number then
              if r.number = o then .self else .designated
            else .none

/-- CONFIGURATION_WRITE_END (R178): OK leaves the record in its slot and takes a warm start; FAIL posts STORAGE with
reason CONFIG_WRITE, changes neither the state nor the flash, and leaves a slot that reads UNCORRECTABLE: torn from the
grant on, as the model deduces (notes/assumptions/11.md), which is the premise on the running operation. -/
def Obligations.ConfigurationWriteEndsInAStartOrANotice : Prop :=
  ∀ (slot : Slot) (record : List Byte) (started : Nat) (s : State), s.resetLow = false → s.ctl.stopping = false →
    s.array.running = some ⟨.configWrite slot record, started⟩ →
    (∃ t, exec (.configurationWriteEnd true) s = .next t ∧ t.ctl.stopping = true ∧ t.array.running = none ∧
      t.array.flash.slots.read slot.val = some (.written record []) ∧ t.port = s.port) ∧
    exec (.configurationWriteEnd false) s =
      .next ({ s with array := { s.array with running := none } }.post (.storage .configWrite 0 false)) ∧
    (s.tornLaw → ∀ t, exec (.configurationWriteEnd false) s = .next t →
      ∃ cell, t.array.flash.slots.read slot.val = some cell ∧ ∀ errors, cell.record errors = none)

/-! ## The scan -/

/-- SCAN_HEADER_READ_END of a tag (R154, R155): a tag that is blank or INVALID is followed by the header read of slot 0,
and the scan keeps for the block that its tag is INVALID; a tag that is RETIRED or FACTORY_BAD makes its block BAD, with
a record while the Bad Block Table has room, and is followed by the tag of the next block. After block 511 the newest
mark found is read, or without one the scan ends, and the station, unless storage is exhausted, enters LISTENING (R157).
The clock moves to the due moment (notes/assumptions/3.md). -/
def Obligations.ScanJudgesATag : Prop :=
  ∀ (b : Block) (disturbed : Bool) (started : Nat) (s : State), s.resetLow = false → s.ctl.stopping = false →
    s.array.running = some ⟨.scanTag b, started⟩ →
    ∃ t, exec (.scanHeaderReadEnd disturbed) s = .next t ∧ t.now = max s.now (started + 160) ∧
      match s.tagRead b disturbed with
      | .blank | .invalid =>
        t.array.running = some ⟨.scanSlot ⟨b, 0⟩, t.now⟩ ∧ t.array.blocks = s.array.blocks ∧
          t.array.badTable = s.array.badTable ∧ t.array.flash = s.array.flash ∧ t.dir = s.dir ∧
          ∀ c, s.array.scan = some c →
            t.array.scan = some { c with
              tagInvalid := decide (s.tagRead b disturbed = .invalid), highest := none, blockStamp := none }
      | .factoryBad | .retired _ _ =>
        t.array.badTable = (if s.array.badTable.length < 32 then s.array.badTable ++ [b] else s.array.badTable) ∧
          ((∀ c stamp, s.array.scan = some c → c.openBest ≠ some (b, stamp)) → b ∉ s.array.freeList →
            (t.block b).state = .bad) ∧
          (b.val < 511 →
            t.array.running = some ⟨.scanTag (b + 1), t.now⟩ ∧ t.block b = { s.block b with state := .bad } ∧
              t.array.flash = s.array.flash ∧ t.dir = s.dir) ∧
          (b.val = 511 → ∀ c, s.array.scan = some c →
            (∀ l stamp, c.mark = some (l, stamp) →
              t.array.running = some ⟨.scanMark l stamp, t.now⟩ ∧ t.array.flash = s.array.flash ∧ t.dir = s.dir) ∧
            (c.mark = none → t.array.scan = none ∧
              (s.ctl.state = .scanning → c.unrecorded = none → s.array.badTable.length < 32 → c.maxStamp < 4294967295 →
                (∀ reason stamp, s.tagRead b disturbed = .retired reason stamp → stamp < 4294967295) →
                s.array.failure = ⟨[], none, none⟩ → s.array.reclaim.buffer = none → t.ctl.state = .listening)))

/-- SCAN_HEADER_READ_END of a slot (R155, R156). A VALID header with the own group tag, of a roster origin and no mark,
is kept with role SELF or DESIGNATED as the station's own role says, or else as STANDIN when it says so: a key without
an entry gets a LIVE one, K is told its seq, and a STANDIN extends its record with D(o) but the origin as mask; a key
that has an entry takes the slot of the higher stamp. Any other slot leaves the directory as it is: one not VALID, of
another group, of a mark, of an origin outside the roster, of seq 0, or of an origin the station holds no pages of that
is not STANDIN. A mark of this station is the newest found when its stamp is the highest yet (R157), and every VALID
header's stamp counts for the next write stamp. The next slot is read, and after slot 31 the block is classified and the
next tag read: CLOSED with used 32 when its tag is INVALID, FREE when every slot is blank, and else CLOSED with used one
above its highest slot that is not blank; one not full whose highest stamp is the highest yet is to be OPEN. After block
511 the newest mark is read. A further pass for an older mark weighs this station's marks of a lower stamp alone and
changes nothing else (R157); that it reads the slots of the blocks that are not BAD, and no tags, is the model's choice
(notes/assumptions/20.md). -/
def Obligations.ScanKeepsADesignatedPage : Prop :=
  (∀ (l : Loc) (disturbed : Bool) (started : Nat) (s : State) (c : Scan), s.resetLow = false → s.ctl.stopping = false →
    s.array.running = some ⟨.scanSlot l, started⟩ → s.array.scan = some c → c.below = none →
    let r := s.headerRead l disturbed
    let ownMark (h : PageHeader) : Prop := r = .valid h ∧ h.tag = s.cfg.tag ∧ h.role = .mark ∧ h.origin = s.self
    let newest (mark : Option (Loc × Nat)) : Prop :=
      (∀ h, ownMark h → (∀ m best, c.mark = some (m, best) → best < h.stamp) → mark = some (l, h.stamp)) ∧
      ((∀ h, ownMark h → ∃ m best, c.mark = some (m, best) ∧ h.stamp ≤ best) → mark = c.mark)
    ∃ t, exec (.scanHeaderReadEnd disturbed) s = .next t ∧
      (l.slot.val < 31 → t.array.running = some ⟨.scanSlot ⟨l.block, l.slot + 1⟩, t.now⟩) ∧
      (l.slot.val = 31 → l.block.val < 511 → t.array.running = some ⟨.scanTag (l.block + 1), t.now⟩) ∧
      (l.slot.val = 31 → l.block.val = 511 → ∀ m stamp, newest (some (m, stamp)) →
        t.array.running = some ⟨.scanMark m stamp, t.now⟩) ∧
      (l.slot.val < 31 ∨ l.block.val < 511 →
        t.array.flash = s.array.flash ∧ newest (t.array.scan.bind (·.mark)) ∧
        (t.array.scan.map (·.maxStamp)) = some (match r with
          | .valid h => max c.maxStamp h.stamp
          | .blank | .invalid => c.maxStamp) ∧
        ((∀ h, r ≠ .valid h) → t.dir = s.dir) ∧
        (∀ h, r = .valid h → (h.tag ≠ s.cfg.tag ∨ h.role = .mark ∨ s.inRoster h.origin = false ∨ h.seq = 0) →
          t.dir = s.dir) ∧
        (∀ (h : PageHeader) (kept : Role), r = .valid h → h.tag = s.cfg.tag → h.role ≠ .mark →
          s.inRoster h.origin = true → 1 ≤ h.seq →
          let k : Key := ⟨h.origin, h.seq⟩
          let own := (s.org h.origin).role
          (own ≠ .self → own ≠ .designated → h.role ≠ .standin → t.dir = s.dir) ∧
          (own = .self ∧ kept = .self ∨ own = .designated ∧ kept = .designated ∨
              own ≠ .self ∧ own ≠ .designated ∧ h.role = .standin ∧ kept = .standin →
            (s.entry? k = none → (s.org h.origin).floor ≤ h.seq →
              t.entry? k = some ⟨k, kept, h.length, .live l h.stamp⟩ ∧ h.seq ≤ (t.org h.origin).known ∧
                (t.block l.block).live = (s.block l.block).live + 1 ∧
                (kept = .standin →
                  (∀ p, inMask (t.standin h.origin).mask p = ((s.designated h.origin).drop 1).contains p) ∧
                  (t.standin h.origin).fromSeq =
                    (if (s.standin h.origin).fromSeq = 0 then h.seq else min (s.standin h.origin).fromSeq h.seq) ∧
                  (t.standin h.origin).toSeq =
                    (if (s.standin h.origin).fromSeq = 0 then h.seq else max (s.standin h.origin).toSeq h.seq))) ∧
            (∀ (e : Entry) (old : Loc) (stamp : Nat), s.entry? k = some e → e.place = .live old stamp →
              (h.stamp ≤ stamp → t.dir = s.dir) ∧
              (stamp < h.stamp → t.entry? k = some { e with place := .live l h.stamp } ∧
                (∀ d : Key, d ≠ k → t.entry? d = s.entry? d) ∧
                (old.block ≠ l.block → (t.block l.block).live = (s.block l.block).live + 1 ∧
                  (t.block old.block).live = (s.block old.block).live - 1)))))) ∧
      (l.slot.val = 31 → l.block.val < 511 →
        let record := t.block l.block
        (c.tagInvalid = true → record.state = .closed ∧ record.used = 32) ∧
        (c.tagInvalid = false → r ≠ .blank → record.state = .closed ∧ record.used = 32) ∧
        (c.tagInvalid = false → r = .blank → c.highest = none →
          record.state = .free ∧ record.used = 0 ∧ t.array.freeList = s.array.freeList ++ [l.block]) ∧
        (∀ i, c.tagInvalid = false → r = .blank → c.highest = some i →
          record.state = .closed ∧ record.used = i + 1 ∧ t.array.freeList = s.array.freeList ∧
          ∀ stamp, i < 31 → c.blockStamp = some stamp →
            t.array.scan.bind (·.openBest) =
              match c.openBest with
              | some (d, best) => some (if best < stamp then (l.block, stamp) else (d, best))
              | none => some (l.block, stamp)))) ∧
  (∀ (l : Loc) (disturbed : Bool) (started bound : Nat) (s : State) (c : Scan), s.resetLow = false →
    s.ctl.stopping = false → s.array.running = some ⟨.scanSlot l, started⟩ → s.array.scan = some c →
    c.below = some bound →
    let r := s.headerRead l disturbed
    let older (h : PageHeader) : Prop :=
      r = .valid h ∧ h.tag = s.cfg.tag ∧ h.role = .mark ∧ h.origin = s.self ∧ h.stamp < bound ∧
        ∀ m best, c.mark = some (m, best) → best < h.stamp
    let newest (mark : Option (Loc × Nat)) : Prop :=
      (∀ h, older h → mark = some (l, h.stamp)) ∧ ((∀ h, ¬older h) → mark = c.mark)
    ∃ t, exec (.scanHeaderReadEnd disturbed) s = .next t ∧
      (l.slot.val < 31 →
        t.array.running = some ⟨.scanSlot ⟨l.block, l.slot + 1⟩, t.now⟩ ∧ t.dir = s.dir ∧
          t.array.blocks = s.array.blocks ∧ t.array.scan = some { c with mark := t.array.scan.bind (·.mark) } ∧
          newest (t.array.scan.bind (·.mark))) ∧
      (l.slot.val = 31 →
        (∀ b, s.nextGood (l.block.val + 1) = some b →
          t.array.running = some ⟨.scanSlot ⟨b, 0⟩, t.now⟩ ∧ t.dir = s.dir ∧ t.array.blocks = s.array.blocks ∧
            newest (t.array.scan.bind (·.mark))) ∧
        (s.nextGood (l.block.val + 1) = none → ∀ m stamp, newest (some (m, stamp)) →
          t.array.running = some ⟨.scanMark m stamp, t.now⟩ ∧ t.dir = s.dir)))

/-- SCAN_MARK_READ_END (R157): a mark that reads becomes the mark entry, and gives the own floor and the own P; without
exhaustion the station enters LISTENING. A mark that does not read starts a further header pass below its stamp. The
next write stamp is one above the highest found; the partially programmed block chosen, or else the head of the Free
Block List, is OPEN (R117, R118, R155, R157); a BAD block without a record or the last stamp found exhausts storage, and
the station enters WITHDRAWN. That TABLE_FULL is reported where both hold is the model's choice
(notes/assumptions/28.md), and so is that this pass begins at slot 0 of the first block that is not BAD, with no tag
read (notes/assumptions/20.md). The number of bit errors is an operand (notes/assumptions/15.md). -/
def Obligations.ScanTakesTheMark : Prop :=
  ∀ (l : Loc) (stamp errors started : Nat) (s : State) (c : Scan), s.resetLow = false → s.ctl.stopping = false →
    s.array.running = some ⟨.scanMark l stamp, started⟩ → s.array.scan = some c → s.ctl.state = .scanning →
    s.inRoster s.self = true →
    ∃ t, exec (.scanMarkReadEnd errors) s = .next t ∧
      (∀ floor p, s.markRead l errors = some (floor, p) →
        t.dir.mark = some ⟨l, stamp⟩ ∧ t.array.scan = none ∧ (t.org s.self).floor = max (s.org s.self).floor floor ∧
          (t.org s.self).published = max p (s.org s.self).known ∧
          (t.org s.self).published ≤ (t.org s.self).known ∧
          (c.unrecorded = none → c.maxStamp < 4294967295 → s.array.failure = ⟨[], none, none⟩ →
            s.array.reclaim.buffer = none → t.ctl.state = .listening) ∧
          (s.array.exhausted = false → ∀ reason b,
            c.unrecorded = some b ∧ reason = .tableFull ∨
              c.unrecorded = none ∧ 4294967295 ≤ c.maxStamp ∧ reason = .stamp ∧ b = 0 →
            t.ctl.state = .withdrawn ∧
              (.storage reason b false ∈ t.port.notices ∨ 16 ≤ t.port.notices.length ∧ t.port.overflow = true)) ∧
          ∃ u : State, t = u.settle ∧ u.array.nextStamp = c.maxStamp + 1 ∧ u.array.flash = s.array.flash ∧
            (∀ b best, c.openBest = some (b, best) →
              (u.block b).state = .opened ∧ (u.block b).used = (s.block b).used ∧ u.array.freeList = s.array.freeList) ∧
            (c.openBest = none → s.openBlock = none → ∀ b rest, s.array.freeList = b :: rest →
              (u.block b).state = .opened ∧ (u.block b).used = 0 ∧ u.array.freeList = rest)) ∧
      (s.markRead l errors = none → ∀ b, s.nextGood 1 = some b →
        t.array.running = some ⟨.scanSlot ⟨b, 0⟩, t.now⟩ ∧ t.dir = s.dir ∧
          (t.array.scan.bind (·.below)) = some stamp ∧ (t.block l.block).weak = true)

/-! ## The host port -/

/-- Which state accepts which command (R167): in another state, and while the station is stopping, every command of
the port is answered NOT_READY and changes nothing else; in an accepting state its status is another. While select is
low data out is driven (R182), with 00h under the command byte, the arguments and the turnaround byte, and then with the
response (R165); 00h follows it. -/
def Obligations.StateTestComesFirst : Prop :=
  ∀ (c : Instr) (code : Byte) (args : List Byte) (s : State), c.hostBytes? = some (code, args) → s.resetLow = false →
    s.port.selected = false →
    ∃ t, exec c s = .next t ∧ t.selLow = true ∧ t.dataOut = some 0 ∧
      (∀ n : Nat, n ≤ args.length + 1 → t.sends n = some 0) ∧
      (∀ r, t.port.response = some r → ∀ i : Nat, t.sends (args.length + 2 + i) = some (r.bytes.getD i 0)) ∧
      if s.ctl.stopping = true ∨ s.ctl.state ∉ c.acceptingStates then t = s.answered code args .notReady []
      else ∃ (st : Status) (bytes : List Byte), st ≠ .notReady ∧ t.port.response = some ⟨code, st.byte :: bytes, 0⟩

/-- A select period ends with SELECT_RISE after any command but RESTART, or before a command has been taken (R165):
the transaction is closed, a response broken off completes no effect, and nothing else changes. With select high data
out floats (R182). A command taken while a period is still open ends that period first (notes/assumptions/10.md). -/
def Obligations.SelectPeriodEndsWithoutEffect : Prop :=
  (∀ s : State, s.resetLow = false → s.port.selected = true →
    (∀ r, s.port.response = some r → r.code ≠ codeRestart) →
    exec .selectRise s =
      .next { s with
        selLow := false
        port := { s.port with selected := false, decoder := [], taken := false, response := none } }) ∧
  (∀ s t : State, exec .selectRise s = .next t → t.dataOut = none) ∧
  (∀ (s : State) (bytes : List Byte), s.resetLow = false → s.port.selected = false → commandTaken bytes = false →
    exec (.selectFallCmdDiscard bytes) s =
      .next { s with
        selLow := false
        port := { s.port with selected := false, decoder := [], taken := false } }) ∧
  (∀ (c : Instr) (code : Byte) (args : List Byte) (s : State), c.hostBytes? = some (code, args) → s.resetLow = false →
    s.port.selected = true → exec c s = exec c s.closeTransaction)

/-- BAD_CMD (R166): a byte that is no command code is answered BAD_CMD. RESTART is answered OK, and nothing else changes
until select rises (R179). TAKE (R176, section 11.4): BUSY while a read is in flight, EMPTY with none and no result, and
otherwise OK with the result, which stays until the response has been clocked out. -/
def Obligations.BadCommandRestartAndTakeAreAnswered : Prop :=
  ∀ s : State, s.hostReady →
    (∀ code : Byte, code ∉ [0x01#8, 0x02#8, 0x03#8, 0x04#8, 0x05#8, 0x10#8, 0x11#8, 0x12#8, 0x13#8, 0x20#8, 0x2F#8] →
      exec (.badCmd code) s = .next (s.answered code [] .badCmd [])) ∧
    exec .restart s = .next (s.answered 0x2F [] .ok []) ∧
    (s.ctl.state ∈ [.listening, .joining, .active, .mute, .withdrawn] →
      (s.port.read = .reading ∨ s.port.read = .fetching → exec .take s = .next (s.answered 0x12 [] .busy [])) ∧
      (s.port.read = .idle → exec .take s = .next (s.answered 0x12 [] .empty [])) ∧
      ∀ r : ReadResult, s.port.read = .held → s.port.readBuffer = some r →
        exec .take s = .next (s.answered 0x12 [] .ok
          ([byte r.status.code, byte r.key.origin.val] ++ bytes3 r.key.seq
            ++ if r.status = .ok then bytes2 r.payload.length ++ r.payload else [])))

/-- STATUS (R168, section 11.4): OK and 21 bytes; a drop of a notice is looked for from now on. -/
def Obligations.StatusShowsTheStation : Prop :=
  ∀ s : State, s.hostReady →
    let bytes : List Byte :=
      [byte s.ctl.state.code, s.cfg.tag, byte s.cfg.number.val, byte (s.cfg.roster.toNat / 256), byte s.cfg.roster.toNat,
        byte s.cfg.factor, byte s.cfg.unitCode, byte s.cfg.intervalCode, byte (s.array.freeList.length / 256),
        byte s.array.freeList.length, byte (s.badCount / 256), byte s.badCount,
        byte (s.array.full.toNat + 2 * s.line.stuck.toNat + 4 * s.port.overflow.toNat + 8 * s.ctl.config.isSome.toNat),
        byte ((s.repl.publish.phase != PublishPhase.idle).toNat
          + 2 * (s.port.read == ReadState.reading || s.port.read == ReadState.fetching).toNat
          + 4 * (s.port.read == ReadState.held).toNat + 8 * s.retire.marking.isSome.toNat),
        byte s.port.notices.length, byte s.repl.wants.length,
        byte (s.repl.wants.filter fun w : Want => w.state == WantState.asked).length, byte (kindCount s.engine.queue .beacon),
        byte (kindCount s.engine.queue .page), byte (kindCount s.engine.queue .repair),
        byte (kindCount s.engine.queue .want)]
    exec .status s =
      .next (State.answered { s with port := { s.port with dropped := false } } 0x01 [] .ok bytes)

/-- Notices (R171, R172): a notice joins the tail of a queue that has room, and ATTN falls; a full queue drops it and
sets the overflow flag. NOTICE returns the notice at the head, or EMPTY, and the queue stays as it is until the response
has been clocked out. -/
def Obligations.NoticesJoinAndAreReturnedInOrder : Prop :=
  (∀ (s : State) (n : Notice), s.ctl.stopping = false →
    s.post n =
      if s.port.notices.length < 16 then
        { s with port := { s.port with notices := s.port.notices ++ [n], attn := true } }
      else { s with port := { s.port with overflow := true, dropped := true } }) ∧
  (∀ s : State, s.hostReady →
    (∀ n rest, s.port.notices = n :: rest →
      n.bytes.length = 8 ∧ exec .notice s = .next (s.answered 0x02 [] .ok n.bytes)) ∧
    (s.port.notices = [] → exec .notice s = .next (s.answered 0x02 [] .empty [])))

/-- COUNTS (R170): the eight counters as they stand; the values returned are subtracted when the response has been
clocked out in full, so that what was counted meanwhile stays; a response broken off subtracts nothing. -/
def Obligations.CountsReturnsAndSubtracts : Prop :=
  (∀ s : State, s.hostReady → s.ctl.state ≠ .unconfigured → s.ctl.state ≠ .configFault →
    let c := s.line.counters
    exec .counts s = .next (s.answered 0x03 [] .ok
      ([c.symbol, c.crc, c.truncated, c.format, c.foreign, c.arbLoss, c.collision, c.lineBreak].flatMap bytes2))) ∧
  (∀ (s : State) (c : Counters) (clocked : Nat), s.resetLow = false → c.law → clocked < 17 →
    s.port.response = some ⟨0x03, 0x00 ::
      ([c.symbol, c.crc, c.truncated, c.format, c.foreign, c.arbLoss, c.collision, c.lineBreak].flatMap bytes2),
      clocked⟩ →
    ∃ r, exec .responseClockedOut s = .next { s with
      port := { s.port with response := r }
      line := { s.line with counters :=
        { symbol := s.line.counters.symbol - c.symbol, crc := s.line.counters.crc - c.crc
          truncated := s.line.counters.truncated - c.truncated, format := s.line.counters.format - c.format
          foreign := s.line.counters.foreign - c.foreign, arbLoss := s.line.counters.arbLoss - c.arbLoss
          collision := s.line.counters.collision - c.collision
          lineBreak := s.line.counters.lineBreak - c.lineBreak } } }) ∧
  (∀ (s t : State) (r : Response), s.port.response = some r → r.code = 0x03 → exec .selectRise s = .next t →
    t.line.counters = s.line.counters)

/-- RESPONSE_CLOCKED_OUT of NOTICE (R172), TAKE (R176) and STATUS (R168): the head leaves and ATTN follows the queue;
the Read Buffer is freed and the read state IDLE; the overflow flag is cleared unless a notice has been dropped since. A
refused command completes nothing. That a repeated RESPONSE_CLOCKED_OUT completes no more, and the mark of a dropped
notice, are the model's choices (notes/assumptions/21.md). -/
def Obligations.ClockedOutResponseCompletes : Prop :=
  ∀ (s : State) (code status : Byte) (bytes : List Byte) (clocked : Nat), s.resetLow = false →
    s.ctl.stopping = false → s.port.response = some ⟨code, status :: bytes, clocked⟩ →
    let done : Option Response := some ⟨code, status :: bytes, bytes.length + 1⟩
    (bytes.length + 1 ≤ clocked → exec .responseClockedOut s = .next s) ∧
    (clocked ≤ bytes.length →
      (status ≠ 0x00 → exec .responseClockedOut s = .next { s with port := { s.port with response := done } }) ∧
      (status = 0x00 → code = 0x02 →
        exec .responseClockedOut s = .next { s with port := { s.port with
          response := done, notices := s.port.notices.drop 1, attn := !(s.port.notices.drop 1).isEmpty } }) ∧
      (status = 0x00 → code = 0x12 →
        exec .responseClockedOut s = .next { s with port := { s.port with
          response := done, read := .idle, readKey := none, readBuffer := none } }) ∧
      (status = 0x00 → code = 0x01 →
        exec .responseClockedOut s = .next { s with port := { s.port with
          response := done, overflow := s.port.dropped } }))

/-- PEER and ORIGIN (R169, R182): a number above 15 is answered BAD_ARG. Another is answered OK: by PEER with the entry's
state, its availability, whether and how many milliseconds ago it was heard, and its beacon record, for the own number
LIVE, the own availability and the own beacon (R27); by ORIGIN with the 31 bytes of its records. Nothing else changes. -/
def Obligations.PeerAndOriginShowTheTables : Prop :=
  ∀ (s : State) (n : Byte), s.hostReady → s.ctl.state ∈ [.listening, .joining, .active, .mute, .withdrawn] →
    (16 ≤ n.toNat → exec (.peer n) s = .next (s.answered 0x04 [n] .badArg []) ∧
      exec (.origin n) s = .next (s.answered 0x05 [n] .badArg [])) ∧
    ∀ p : Station, n.toNat = p.val →
      let shown (e : PeerEntry) (available : Bool) : List Byte :=
        [byte e.state.code, byte (available.toNat + 2 * e.lastHeard.isSome.toNat + 4 * e.beacon.isSome.toNat)]
          ++ bytes2 (match e.lastHeard with
              | some t => min 65535 ((s.now - t) / 16000)
              | none => 0)
          ++ match e.beacon with
              | some b =>
                byte (b.withdrawn.toNat + 2 * b.full.toNat + 4 * b.joining.toNat) :: (bytes3 b.published ++ bytes3 b.floor
                  ++ byte b.items.length :: b.items.flatMap fun i => byte i.1.val :: bytes3 i.2)
              | none => [0, 0, 0, 0, 0, 0, 0, 0]
      let held := s.dir.entries.filter fun e => e.key.origin == p
      let wants := s.repl.wants.filter fun w => w.key.origin == p
      let count (r : Role) : Nat := (held.filter fun e => e.role == r).length
      (p ≠ s.self →
        exec (.peer n) s = .next (s.answered 0x04 [n] .ok (shown (s.peer p) (s.peerAvailable p)))) ∧
      (p = s.self →
        exec (.peer n) s = .next (s.answered 0x04 [n] .ok (shown ⟨.live, none, some s.ownBeacon⟩ s.selfAvailable))) ∧
      exec (.origin n) s = .next (s.answered 0x05 [n] .ok
        ([byte (s.org p).role.code, byte (s.org p).rank] ++ bytes3 (s.org p).floor ++ bytes3 (s.org p).known
          ++ bytes3 (s.org p).held ++ bytes3 (s.org p).published ++ bytes2 (s.standin p).mask.toNat
          ++ bytes3 (s.standin p).fromSeq ++ bytes3 (s.standin p).toSeq ++ bytes2 (count .self)
          ++ bytes2 (count .designated) ++ bytes2 (count .standin)
          ++ [byte (held.filter Entry.isLanding).length, byte wants.length,
            byte (wants.filter fun w => w.state == .stalled).length]))

/-- PUBLISH is tested in the order of R44, and the first failing test gives the status; a refused PUBLISH changes no
state and posts no notice, and an accepted one is answered ACCEPTED with the seq assigned (R45). -/
def Obligations.PublishIsTestedInOrder : Prop :=
  ∀ (s : State) (length : BitVec 16) (payload : List Byte), s.hostReady →
    let good : Prop := 1 ≤ length.toNat ∧ length.toNat ≤ 256
    let sent := if lengthGood length.toNat then payload else []
    let args := bytes2 length.toNat ++ sent
    let q := max (s.org s.self).published (s.org s.self).known
    let refused (st : Status) : State := s.answered 0x10 args st []
    (s.ctl.state ≠ .active → exec (.publish length payload) s = .next (refused .notReady)) ∧
    (s.ctl.state = .active →
      (¬(good ∧ payload.length = length.toNat) → exec (.publish length payload) s = .next (refused .badArg)) ∧
      (good → payload.length = length.toNat →
        (s.repl.publish.phase ≠ .idle → exec (.publish length payload) s = .next (refused .busy)) ∧
        (s.repl.publish.phase = .idle →
          (s.array.full = true → exec (.publish length payload) s = .next (refused .storeFull)) ∧
          (s.array.full = false →
            (16777215 ≤ q → exec (.publish length payload) s = .next (refused .seqExhausted)) ∧
            (q < 16777215 →
              ∃ u : State, exec (.publish length payload) s = .next u.settle ∧
                u.port.response = some ⟨0x10, 0x01 :: bytes3 (q + 1), 0⟩ ∧ u.repl.publish.phase ≠ .idle)))))

/-- An accepted PUBLISH (R45): P and K[self] are the seq assigned, the payload lies in the Publish Buffer, the LANDING
entry stands in the directory, the program is requested, and the phase is PROGRAMMING with attempt and best count 0. The
lines and the array are as they were. -/
def Obligations.PublishAcceptedAssignsTheNextSeq : Prop :=
  ∀ (s : State) (length : BitVec 16) (payload : List Byte), s.hostReady → s.ctl.state = .active → 1 ≤ length.toNat →
    length.toNat ≤ 256 → payload.length = length.toNat → s.repl.publish.phase = .idle → s.array.full = false →
    s.inRoster s.self = true →
    let q := max (s.org s.self).published (s.org s.self).known + 1
    q ≤ 16777215 → s.entry? ⟨s.self, q⟩ = none → (s.org s.self).floor ≤ q →
    ∃ u : State, exec (.publish length payload) s = .next u.settle ∧ (u.org s.self).published = q ∧ (u.org s.self).known = q ∧
      u.repl.publish = ⟨.programming, q, 0, 0, none, none, true, some payload⟩ ∧
      u.entry? ⟨s.self, q⟩ = some ⟨⟨s.self, q⟩, .self, payload.length, .landing .publish⟩ ∧
      (∀ k, k ≠ ⟨s.self, q⟩ → u.entry? k = s.entry? k) ∧ u.repl.landing = s.repl.landing ∧ u.array = s.array ∧
      u.line = s.line ∧ u.engine = s.engine ∧ u.members = s.members ∧ u.ctl = s.ctl ∧ u.retire = s.retire

/-- READ is tested in the order of R174; a refused READ changes nothing. An accepted one records the key and takes the
path that the lookup gives: a page in a buffer completes OK at once, a LIVE one is requested from the array, an absent
one is fetched, or in MUTE completes UNREACHABLE. -/
def Obligations.ReadIsTestedInOrder : Prop :=
  ∀ (s : State) (o : Byte) (seq : BitVec 24), s.hostReady →
    s.ctl.state ∈ [.listening, .joining, .active, .mute, .withdrawn] →
    let args := o :: bytes3 seq.toNat
    let refused (st : Status) : State := s.answered 0x11 args st []
    (16 ≤ o.toNat ∨ seq.toNat = 0 → exec (.read o seq) s = .next (refused .badArg)) ∧
    ∀ p : Station, o.toNat = p.val → 1 ≤ seq.toNat →
      (s.inRoster p = false → exec (.read o seq) s = .next (refused .badArg)) ∧
      (s.inRoster p = true → s.port.read ≠ .idle → exec (.read o seq) s = .next (refused .busy)) ∧
      (s.inRoster p = true → s.port.read = .idle → seq.toNat < (s.org p).floor →
        exec (.read o seq) s = .next (refused .retired)) ∧
      (s.inRoster p = true → s.port.read = .idle → (s.org p).floor ≤ seq.toNat →
        ∃ u : State, exec (.read o seq) s = .next u.settle ∧ u.port.response = some ⟨0x11, [0x01], 0⟩ ∧
          u.port.readKey = some ⟨p, seq.toNat⟩ ∧ u.dir = s.dir ∧ u.array = s.array ∧ u.line = s.line ∧
          match s.entry? ⟨p, seq.toNat⟩ with
          | some ⟨_, _, _, .landing b⟩ =>
            u.port.read = .held ∧ u.port.readBuffer = some ⟨.ok, ⟨p, seq.toNat⟩, s.bufferPayload b⟩ ∧
              s.tells u (.readDone ⟨p, seq.toNat⟩ .ok) ∧ u.repl = s.repl ∧ u.engine = s.engine
          | some ⟨_, _, _, .live _ _⟩ =>
            u.port.read = .reading ∧ u.port.readRequested = true ∧ u.repl = s.repl ∧ u.engine = s.engine ∧
              u.port.notices = s.port.notices
          | none =>
            if s.ctl.state = .mute then
              u.port.read = .held ∧ u.port.readBuffer = some ⟨.unreachable, ⟨p, seq.toNat⟩, []⟩ ∧
                s.tells u (.readDone ⟨p, seq.toNat⟩ .unreachable) ∧ u.repl = s.repl ∧ u.engine = s.engine
            else
              u.port.read = .fetching ∧ u.port.notices = s.port.notices ∧
                (u.repl.fetch.map fun f => (f.key, f.ask, f.deadline)) = some (⟨p, seq.toNat⟩, 1, none))

/-- RETIRE is tested in the order of R135; a refused one changes nothing, and an accepted one is MARKING with the floor
asked for and a mark program requested. -/
def Obligations.RetireIsTestedInOrder : Prop :=
  ∀ (s : State) (f : BitVec 24), s.hostReady → s.ctl.state = .joining ∨ s.ctl.state = .active →
    (f.toNat < (s.org s.self).floor ∨ (s.org s.self).published + 1 < f.toNat →
      exec (.retire f) s = .next (s.answered 0x13 (bytes3 f.toNat) .badArg [])) ∧
    ((s.org s.self).floor ≤ f.toNat → f.toNat ≤ (s.org s.self).published + 1 →
      (s.retire.marking ≠ none → exec (.retire f) s = .next (s.answered 0x13 (bytes3 f.toNat) .busy [])) ∧
      (s.retire.marking = none →
        exec (.retire f) s =
          .next ({ s with retire := ⟨some f.toNat, true⟩ }.answered 0x13 (bytes3 f.toNat) .accepted []).settle))

/-- CONFIGURE is tested in the order of R178; a refused one changes nothing. An accepted one begins the configuration
write of the record, with its check, into the lowest blank slot of block 0; the slot is torn until the write ends
(R127). That the slot is torn from the grant on is the model's way (notes/assumptions/11.md). -/
def Obligations.ConfigureIsTestedInOrder : Prop :=
  ∀ (s : State) (record : List Byte), s.hostReady → record.length = 7 →
    s.ctl.state = .unconfigured ∨ s.ctl.state = .configFault →
    let refused (st : Status) : State := s.answered 0x20 record st []
    (s.recordBusy = true → exec (.configure record) s = .next (refused .busy)) ∧
    (s.recordBusy = false →
      (decodeRecord record = none → exec (.configure record) s = .next (refused .badArg)) ∧
      (decodeRecord record ≠ none →
        ((∀ i : Slot, s.array.flash.slots.read i.val ≠ none) →
          exec (.configure record) s = .next (refused .storeFull)) ∧
        ∀ i : Slot, s.array.flash.slots.read i.val = none → (∀ j < i, s.array.flash.slots.read j.val ≠ none) →
          exec (.configure record) s = .next ({ s with array := { s.array with
            flash := { s.array.flash with slots := s.array.flash.slots.put i.val .torn }
            running := some ⟨.configWrite i (withCheck record), s.now⟩ } }.answered 0x20 record .accepted [])))

/-! ## The line: receiving -/

/-- Reception symbol by symbol. Every confirmed low that ends leaves the line high and the idle count at 0 (R75, R79),
and a station that sends has then released the symbol it drove, its width after it began (R82). FRAME_START (R78): a
START in IDLE, or in RECOVERING after 6 U of high, begins a frame; another in RECOVERING or one in an ack window is
ignored but for the level. DATA_BIT (R80, R99): a ZERO or ONE adds one bit in RECEIVING, and is ignored in RECOVERING
and in an ack window. STRAY_LOW (R81): counted in IDLE, and ignored in RECOVERING and in an ack window.
RECOVERY_PERIOD_END (R81): after the recovery period of high the receiver enters IDLE, its idle count running from the
rise (R79); that a rise no command has told comes now is the model's choice (notes/assumptions/30.md). The clock moves by
the measured widths (notes/assumptions/3.md). A START in RECEIVING is SYMBOL_ERROR, so that FRAME_START changes nothing
there is the model's choice (notes/assumptions/7.md). -/
def Obligations.ReceptionFollowsTheSymbols : Prop :=
  ∀ s : State, s.resetLow = false → s.ctl.config.isSome = true →
    let ended (high width : Nat) : Nat :=
      max s.now (s.line.since + (if s.line.high then high + width else width) * 2 ^ s.cfg.unitCode)
    let rises (now : Nat) : Line :=
      let l := { s.line with high := true, since := now, fell := false, idleRef := now }
      match s.engine.sending with
      | some x =>
        if s.line.tx = .starting ∨ s.line.tx = .arbitrating ∨ s.line.tx = .sending then
          { l with
            driven := false
            txSince := if s.line.driven then s.line.txSince + (match x.last with
                | none => 4
                | some false => 1
                | some true => 2) * (16 * 2 ^ s.cfg.unitCode)
              else s.line.txSince }
        else l
      | none => l
    let ignored : Prop := s.line.receiver = .recovering ∨ s.line.receiver = .window
    let high (high width : Nat) : State := { s with now := ended high width, line := rises (ended high width) }
    (∀ gap width : Nat, 56 ≤ width → width < 72 →
      (s.line.receiver = .idle ∨ s.line.receiver = .recovering ∧ 96 ≤ gap →
        exec (.frameStart gap width) s = .next { s with
          now := ended gap width
          line := { rises (ended gap width) with receiver := .receiving, bitCount := some 0, expected := none }
          engine := { s.engine with assembly := ⟨0, 0, [], 0xFFFF, 0⟩ } }) ∧
      (s.line.receiver = .recovering ∧ gap < 96 ∨ s.line.receiver = .window →
        exec (.frameStart gap width) s = .next (high gap width)) ∧
      (s.line.receiver = .receiving → exec (.frameStart gap width) s = .next s)) ∧
    (∀ (gap width : Nat) (b : Bool), 8 ≤ gap → gap < 40 →
      (8 ≤ width ∧ width < 24 ∧ b = false ∨ 24 ≤ width ∧ width < 40 ∧ b = true) →
      (∀ n, s.line.receiver = .receiving → s.line.bitCount = some n →
        let a := s.engine.assembly.push n b
        exec (.dataBit gap width) s = .next { s with
          now := ended gap width
          line := { rises (ended gap width) with
            bitCount := some (n + 1)
            expected := if n + 1 = 28 then some (44 + 8 * (a.header % 1024)) else s.line.expected }
          engine := { s.engine with assembly := a } }) ∧
      (ignored → exec (.dataBit gap width) s = .next (high gap width))) ∧
    (∀ width : Nat, (4 ≤ width ∧ width < 56 ∨ 72 ≤ width ∧ width < 128) →
      let now := if s.line.high then s.now else max s.now (s.line.since + width * 2 ^ s.cfg.unitCode)
      (s.line.receiver = .idle →
        exec (.strayLow width) s = .next { s with
          now := now
          line := { rises now with
            counters := { s.line.counters with symbol := min 65535 (s.line.counters.symbol + 1) } } }) ∧
      (ignored → exec (.strayLow width) s = .next { s with now := now, line := rises now })) ∧
    (s.line.receiver = .recovering → s.line.stuck = false →
      let period := s.line.recovery * (16 * 2 ^ s.cfg.unitCode)
      let rise := if s.line.up then s.line.since else s.now
      exec .recoveryPeriodEnd s = .next { s with
        now := max s.now (rise + period)
        line := { s.line with high := true, since := rise, fell := false, idleRef := rise, receiver := .idle } })

/-- A reception that fails charges one counter, by one up to 65,535 (R95), and no other: SYMBOL_ERROR at once (R80),
and FRAME_END_GAP a truncated frame or one that fails a check of R100, whose body is consumed by no block. The receiver
is in RECOVERING, with the threshold and the recovery period raised to 6 U + 8 U × (R − 1) (R81, R83). A low that is a
symbol error leaves the line high with the idle count at 0 (R79), and a symbol that the station drove released (R82); a
short gap leaves it low, measured from the end of that gap (R75).
The clock moves to the due moment (notes/assumptions/3.md). -/
def Obligations.FailedReceptionChargesOneCounter : Prop :=
  let failed (l : Line) (factor : Nat) (c : Counters) : Line :=
    { l with
      bitCount := none, expected := none, receiver := .recovering, threshold := 6 + 8 * (factor - 1)
      recovery := 6 + 8 * (factor - 1), counters := c }
  (∀ (s : State) (fault : SymbolFault), s.resetLow = false → s.ctl.config.isSome = true →
    s.line.receiver = .receiving →
    let c := { s.line.counters with symbol := min 65535 (s.line.counters.symbol + 1) }
    let rises (now : Nat) : Line :=
      let l := { s.line with high := true, since := now, fell := false, idleRef := now }
      match s.engine.sending with
      | some x =>
        if s.line.tx = .starting ∨ s.line.tx = .arbitrating ∨ s.line.tx = .sending then
          { l with
            driven := false
            txSince := if s.line.driven then s.line.txSince + (match x.last with
                | none => 4
                | some false => 1
                | some true => 2) * (16 * 2 ^ s.cfg.unitCode)
              else s.line.txSince }
        else l
      | none => l
    let ended (now : Nat) (l : Line) : State :=
      { s with now := now, line := failed l s.cfg.factor c, engine := { s.engine with assembly := .empty } }
    (∀ width : Nat, fault = .low width → (4 ≤ width ∧ width < 8 ∨ 40 ≤ width ∧ width < 128) →
      let now := if s.line.high then s.now else max s.now (s.line.since + width * 2 ^ s.cfg.unitCode)
      exec (.symbolError fault) s = .next (ended now (rises now))) ∧
    (∀ width : Nat, fault = .shortGap width → 4 ≤ width → width < 8 →
      let fall := if s.line.high then s.line.since + width * 2 ^ s.cfg.unitCode else s.now
      exec (.symbolError fault) s =
        .next (ended (max s.now fall) { s.line with high := false, since := fall, fell := false }))) ∧
  (∀ s : State, s.frameEnds →
    let bits := s.line.bitCount.getD 0
    let short : Prop := bits < 28 ∨ ∃ n, s.line.expected = some n ∧ bits < n
    let outcome := checkFrame s.cfg.tag s.cfg.roster bits s.engine.assembly
    let c := s.line.counters
    let charged (c : Counters) : State :=
      { s with
        now := max s.now (s.line.since + 40 * 2 ^ s.cfg.unitCode)
        line := failed s.line s.cfg.factor c
        engine := { s.engine with assembly := .empty } }
    (short → exec .frameEndGap s =
      .next (charged { c with truncated := min 65535 (c.truncated + 1) }).settle) ∧
    (¬short → outcome = .crc →
      exec .frameEndGap s = .next (charged { c with crc := min 65535 (c.crc + 1) }).settle) ∧
    (¬short → outcome = .format →
      exec .frameEndGap s = .next (charged { c with format := min 65535 (c.format + 1) }).settle) ∧
    (¬short → outcome = .foreign →
      exec .frameEndGap s = .next (charged { c with foreign := min 65535 (c.foreign + 1) }).settle))

/-! ## Frames taken -/

/-- A valid frame with the own number (R29) moves the station to MUTE: DUPLICATE_ID is posted, the beacon timer stops
(R38), the Want List and the fetch end (R64, R71), the queue is emptied (R112), and no peer, floor, frontier or
published seq changes. In MUTE it changes nothing but the line interface. The clock moves to the due moment
(notes/assumptions/3.md). -/
def Obligations.DuplicateNumberMutesTheStation : Prop :=
  ∀ (s : State) (m : Message), s.hears m → m.sender = s.self →
    (s.ctl.state ≠ .mute →
      ∃ t, exec .frameEndGap s = .next t ∧ t.ctl.state = .mute ∧ s.tells t (.duplicateId m.kind.value) ∧
        t.members.peers = s.members.peers ∧ t.members.beaconTimer = none ∧ t.repl.wants = [] ∧ t.repl.fetch = none ∧
        t.engine.queue = [] ∧ t.ctl.config = s.ctl.config ∧
        ∀ o : Station, (t.org o).floor = (s.org o).floor ∧ (t.org o).known = (s.org o).known ∧
          (t.org o).published = (s.org o).published) ∧
    (s.ctl.state = .mute →
      exec .frameEndGap s = .next (State.settle { s with
        now := max s.now (s.line.since + 40 * 2 ^ s.cfg.unitCode)
        line := s.lineAfter m
        engine := { s.engine with assembly := .empty } }))

/-- What the membership table makes of a valid frame from a peer (R30, R31, R33 to R35): its entry, the notices, and
no other entry. A frame but a beacon makes the peer LIVE, and from an EXCLUDED one sets last-heard and goes no
further. A matching beacon makes it LIVE, replaces the record, and hands on the floor, the published seq and the
items; a mismatching one makes it EXCLUDED without a record, and is not handed on. The clock moves to the due moment
(notes/assumptions/3.md). -/
def Obligations.FramesMoveTheMembershipTable : Prop :=
  ∀ (s : State) (m : Message), s.hears m → m.sender ≠ s.self →
    let p := m.sender
    let now := max s.now (s.line.since + 40 * 2 ^ s.cfg.unitCode)
    let heard (e : PeerEntry) (t : State) : Prop :=
      exec .frameEndGap s = .next t ∧ t.now = now ∧ t.peer p = e ∧ (∀ q, q ≠ p → t.peer q = s.peer q) ∧
        (m.kind ≠ .page → t.line = s.lineAfter m)
    let allows (b : Option BeaconRec) : Bool := match b with
      | none => true
      | some b => !b.withdrawn && !b.full
    ((∀ (x : Nat) (y : BitVec 16) (b : BeaconRec), m ≠ .beacon p x y b) →
      ((s.peer p).state ≠ .excluded →
        ∃ t, heard ⟨.live, some now, (s.peer p).beacon⟩ t ∧
          ((s.peer p).state ≠ .live → s.tells t (.peerChange p .live (allows (s.peer p).beacon)))) ∧
      ((s.peer p).state = .excluded →
        ∃ u : State, exec .frameEndGap s = .next u.settle ∧ heard { s.peer p with lastHeard := some now } u.settle ∧
          u.dir = s.dir ∧ u.repl = s.repl ∧ u.array = s.array ∧ u.port = s.port ∧ u.ctl = s.ctl ∧
          u.engine = { s.engine with assembly := .empty })) ∧
    (∀ (factor : Nat) (roster : BitVec 16) (b : BeaconRec), m = .beacon p factor roster b →
      (factor = s.cfg.factor → roster = s.cfg.roster →
        let kept := { b with items := b.items.filter fun i => inMask s.cfg.roster i.1 }
        ∃ t, heard ⟨.live, some now, some kept⟩ t ∧
          ((s.peer p).state ≠ .live → s.tells t (.peerChange p .live (allows (some b)))) ∧
          (t.org p).floor = max (s.org p).floor b.floor ∧ b.published ≤ (t.org p).known ∧
          (∀ i ∈ kept.items, i.2 ≤ (t.org i.1).known) ∧ ∀ o, o ≠ p → (t.org o).floor = (s.org o).floor) ∧
      (¬(factor = s.cfg.factor ∧ roster = s.cfg.roster) →
        ∃ t, heard ⟨.excluded, some now, none⟩ t ∧
          ((s.peer p).state ≠ .excluded →
            s.tells t (.configMismatch p (factor != s.cfg.factor) (roster != s.cfg.roster))) ∧
          ∀ o : Station, (t.org o).floor = (s.org o).floor ∧ (t.org o).known = (s.org o).known))

/-- A PAGE from a LIVE peer (R53 to R55, R89). In LISTENING, JOINING and ACTIVE one of an origin whose role is
DESIGNATED or STANDIN is stored with that role, in the lowest free landing buffer and at the tail of the Landing Queue,
with its entry; a STANDIN page extends the stand-in record (R15). One whose key has an entry is held already. Either is
acknowledged in JOINING and ACTIVE with R of 2 or more, in the slot of the designated rank, or R - 1 above the stand-in
rank; in LISTENING neither is. With role NONE, in another state, with the FULL flag set, below the floor, or without a
free buffer, a PAGE is neither stored nor acknowledged. K of the origin is told its seq in every case (R7). The lowest
free buffer is the model's choice (notes/assumptions/17.md). -/
def Obligations.PageIsStoredAndAcknowledged : Prop :=
  ∀ (s : State) (p : Station) (k : Key) (payload : List Byte), s.hears (.page p k payload) → p ≠ s.self →
    (s.peer p).state = .live →
    let role := (s.org p).role
    let holds : Prop := (role = .designated ∨ role = .standin) ∧ s.ctl.state ∈ [.listening, .joining, .active] ∧
      s.array.full = false ∧ (s.org p).floor ≤ k.seq
    let slot := if role = .standin then s.cfg.factor - 1 + (s.org p).rank else s.designatedRank p
    let heard := s.lineAfter (.page p k payload)
    let answered : Line :=
      if (s.ctl.state = .joining ∨ s.ctl.state = .active) ∧ 2 ≤ s.cfg.factor then
        { heard with pendingAck := some slot, tx := .acking }
      else heard
    ∃ u : State, exec .frameEndGap s = .next u.settle ∧ k.origin = p ∧ max (s.org p).known k.seq = (u.org p).known ∧
      u.array = s.array ∧ u.ctl = s.ctl ∧ u.retire = s.retire ∧ u.engine.sending = none ∧
      (∀ d : Key, d ≠ k → u.entry? d = s.entry? d) ∧
      (holds → s.entry? k = none →
        ∀ i : Fin 4, s.repl.landing.buffers.get i = none →
          (∀ j < i, s.repl.landing.buffers.get j ≠ none) →
          u.entry? k = some ⟨k, role, payload.length, .landing (.landing i)⟩ ∧
            u.repl.landing.buffers.get i = some ⟨k, role, payload⟩ ∧
            (∀ j, j ≠ i → u.repl.landing.buffers.get j = s.repl.landing.buffers.get j) ∧
            u.repl.landing.queue = s.repl.landing.queue ++ [i] ∧ u.line = answered ∧
            let old := s.standin p
            u.standin p =
              if role = .standin then
                { old with
                  fromSeq := if old.fromSeq = 0 then k.seq else min old.fromSeq k.seq
                  toSeq := if old.fromSeq = 0 then k.seq else max old.toSeq k.seq }
              else old) ∧
      (holds → s.entry? k ≠ none →
        u.entry? k = s.entry? k ∧ u.repl.landing = s.repl.landing ∧ u.standin p = s.standin p ∧ u.line = answered) ∧
      (role = .none ∨ s.ctl.state ∈ [.mute, .withdrawn] ∨ s.array.full = true ∨ k.seq < (s.org p).floor ∨
          s.entry? k = none ∧ (∀ i : Fin 4, s.repl.landing.buffers.get i ≠ none) →
        u.entry? k = s.entry? k ∧ u.repl.landing = s.repl.landing ∧ u.standin p = s.standin p ∧ u.line = heard)

/-- A WANT for 1 to 8 keys from a LIVE peer, in JOINING, ACTIVE and WITHDRAWN (R65): its keys are gone through in
ascending order, and each with a LIVE entry is answered by an unstaged REPAIR, its earliest start 24 U × the answer rank
after the start of the WANT's end gap, unless a REPAIR for it or four REPAIRs are queued; a key without one is not
answered, and in LISTENING and MUTE none is. A REPAIR for a key that is wanted (R67, R68): the own REPAIR for it is
suppressed; with a free landing buffer and no FULL flag the page is stored as a PAGE is, without an ack, and its want
leaves the list; a fetch for the key ends OK with the payload. The lowest free buffer is the model's choice
(notes/assumptions/17.md). The clock moves to the due moment (notes/assumptions/3.md). -/
def Obligations.WantsAreAnsweredAndRepairsTaken : Prop :=
  (∀ (s : State) (p o : Station) (q count : Nat), s.hears (.want p o q count) → p ≠ s.self → (s.peer p).state = .live →
    let now := max s.now (s.line.since + 40 * 2 ^ s.cfg.unitCode)
    let heard (queue : List TxEntry) : State :=
      State.setPeer { s with
          now := now
          line := s.lineAfter (.want p o q count)
          engine := { s.engine with assembly := .empty, queue := queue } } p
        fun e => { e with lastHeard := some now }
    let rank (e : Entry) : Nat := match e.role with
      | .designated => s.designatedRank o
      | .standin => 2 * s.cfg.factor - 1
      | .self | .none | .mark => 0
    let live (k : Key) : Option Entry :=
      if k.seq < (s.org k.origin).floor then none
      else (s.entry? k).filter fun e => match e.place with
        | .live _ _ => true
        | .landing _ => false
    let answer (queue : List TxEntry) (k : Key) : List TxEntry :=
      match live k with
      | some e =>
        if queue.any (fun d => d.target == .repair k) || decide (4 ≤ kindCount queue .repair) then queue
        else insertTx
          ⟨.repair k, s.line.since + 24 * rank e * (16 * 2 ^ s.cfg.unitCode), now, false, false, false, false, false⟩ queue
      | none => queue
    let keys : List Key := ((List.range count).map fun i => (⟨o, q + i⟩ : Key)).filter fun k => k.seq ≤ 16777215
    (s.ctl.state = .listening ∨ s.ctl.state = .mute → exec .frameEndGap s = .next (heard s.engine.queue).settle) ∧
    (s.ctl.state ∈ [.joining, .active, .withdrawn] →
      exec .frameEndGap s = .next (heard (keys.foldl answer s.engine.queue)).settle)) ∧
  (∀ (s : State) (p : Station) (k : Key) (payload : List Byte), s.hears (.repair p k payload) → p ≠ s.self →
    (s.peer p).state = .live →
    ∃ u : State, exec .frameEndGap s = .next u.settle ∧ (u.org k.origin).known = max (s.org k.origin).known k.seq ∧
      u.array = s.array ∧ u.ctl = s.ctl ∧ u.line = s.lineAfter (.repair p k payload) ∧
      (∀ d : Key, d ≠ k → u.entry? d = s.entry? d) ∧
      (s.inTransmission (.repair k) = false → u.tx? (.repair k) = none) ∧
      (s.repl.wants.any (fun w => w.key == k) = true → s.ctl.state ∈ [.listening, .joining, .active] →
        s.array.full = false → (s.org k.origin).floor ≤ k.seq → s.entry? k = none →
        ∀ i : Fin 4, s.repl.landing.buffers.get i = none → (∀ j < i, s.repl.landing.buffers.get j ≠ none) →
          u.entry? k = some ⟨k, (s.org k.origin).role, payload.length, .landing (.landing i)⟩ ∧
            u.repl.landing.buffers.get i = some ⟨k, (s.org k.origin).role, payload⟩ ∧
            u.repl.landing.queue = s.repl.landing.queue ++ [i] ∧ ∀ w ∈ u.repl.wants, w.key ≠ k) ∧
      (∀ f : Fetch, s.repl.fetch = some f → f.key = k →
        u.repl.fetch = none ∧ u.port.read = .held ∧ u.port.readBuffer = some ⟨.ok, k, payload⟩ ∧
          s.tells u (.readDone k .ok)))

/-! ## The line: sending -/

/-- START_MOMENT (R84, R107, R108): the first ready entry of the queue is offered. A line that fell less than 2/16 U
before is joined, and the START of the frame driven, its bits built from the values of the moment; after an earlier fall
the station does not begin, and the line is low once the fall is confirmed at 4/16 U (R75). The LINE output is low for
the width of each symbol, 4 U, 1 U or 2 U (R82). DRIVE_NEXT_SYMBOL (R82, R85): each bit is driven 1 U after the rise,
the first six as the arbitration field, and the last is released. The START's low is measured from the fall of the line,
and the idle count is 0 while it lasts (R75, R79). That the rise is the release where no command has told the low's end,
and that a bit's low is dated with its measurement only, are the model's choices (notes/assumptions/22.md). The clock moves to the due moment (notes/assumptions/3.md). -/
def Obligations.FramesAreSentSymbolBySymbol : Prop :=
  (∀ (s : State) (fallen : Nat) (e : TxEntry), s.mayBegin = true →
    let now := max s.now (s.line.idleRef + s.line.threshold * (16 * 2 ^ s.cfg.unitCode))
    s.engine.queue.find? (fun e => e.ready now) = some e →
    (fallen < 2 →
      ∃ body, exec (.startMoment fallen) s = .next { s with
          now := now
          engine := { s.engine with
            sending := some ⟨e.target, frameBits (targetKind e.target) s.self s.cfg.tag body, 0, none⟩ }
          line := { s.line with
            high := false, since := now - fallen * 2 ^ s.cfg.unitCode, fell := false, tx := .starting, driven := true
            txSince := now } } ∧
        (∀ t, exec (.startMoment fallen) s = .next t → t.idleCount = 0 ∧ t.level = false) ∧
        match e.target with
        | .beacon => body = beaconBody s.cfg.factor s.cfg.roster
            { withdrawn := s.ctl.state == .withdrawn, full := s.array.full, joining := s.ctl.state == .joining
              published := (s.org s.self).published, floor := (s.org s.self).floor
              items := (s.self :: stations.filter fun o => o != s.self && (s.org o).role == .designated).map
                fun o => (o, (s.org o).held) }
        | .want o first count => body = wantBody o first count
        | .repair k => ∀ b, s.engine.staging = some b → body = pageBody k b.payload
        | .page k => ∀ payload, s.repl.publish.buffer = some payload → body = pageBody k payload) ∧
    (2 ≤ fallen → fallen < 4 → exec (.startMoment fallen) s = .next { s with now := now }) ∧
    (4 ≤ fallen →
      exec (.startMoment fallen) s =
        .next { s with
          now := now
          line := { s.line with high := false, since := now - fallen * 2 ^ s.cfg.unitCode, fell := false } })) ∧
  (∀ (s : State) (x : Sending), s.resetLow = false → s.ctl.config.isSome = true → s.engine.sending = some x →
    s.line.tx = .starting ∨ s.line.tx = .arbitrating ∨ s.line.tx = .sending →
    let unit := 16 * 2 ^ s.cfg.unitCode
    let released :=
      if s.line.driven then s.line.txSince + (match x.last with
        | none => 4
        | some false => 1
        | some true => 2) * unit
      else s.line.txSince
    (s.lineOutput = true ↔ s.line.driven = true ∧ s.now < released) ∧
    (∀ b rest, x.rest = b :: rest →
      let rise := if s.line.high = true ∧ s.line.driven = false then s.line.since else released
      let now := max s.now (rise + unit)
      exec .driveNextSymbol s = .next { s with
        now := now
        line := { s.line with
          high := true, since := rise, fell := false, idleRef := rise
          tx := if x.sent < 6 then .arbitrating else .sending, driven := true, txSince := now }
        engine := { s.engine with sending := some ⟨x.target, rest, x.sent + 1, some b⟩ } }) ∧
    (x.rest = [] →
      exec .driveNextSymbol s = .next { s with
        now := max s.now released
        line := { s.line with tx := .quiet, driven := false, txSince := released } }))

/-- ARBITRATION_LOSS and COLLISION (R85, R86, R110): driving stops, one counter is charged (R95), and the entry stays
with its renew flag clear; an entry that has been cancelled, or any in MUTE, leaves the queue (R111, R112). The line is
low, the idle count 0 (R79), and the station cannot begin again before the line has risen. -/
def Obligations.LostTransmissionKeepsItsEntry : Prop :=
  ∀ (c : Instr) (s : State) (x : Sending), s.resetLow = false → s.ctl.config.isSome = true →
    s.engine.sending = some x →
    (c = .arbitrationLoss ∧ s.line.tx = .arbitrating ∧ x.last = some false ∨ c = .collision) →
    let counters :=
      if c = .collision then { s.line.counters with collision := min 65535 (s.line.counters.collision + 1) }
      else { s.line.counters with arbLoss := min 65535 (s.line.counters.arbLoss + 1) }
    ∃ u : State, exec c s = .next u.settle ∧ u.now = s.now ∧ u.dir = s.dir ∧ u.members = s.members ∧
      u.ctl = s.ctl ∧ u.array = s.array ∧ u.retire = s.retire ∧ u.engine.sending = none ∧
      u.engine.assembly = s.engine.assembly ∧
      u.line = { s.line with
        fell := s.line.high, tx := .quiet, driven := false, txSince := s.now, counters := counters } ∧
      u.level = false ∧ u.idleCount = 0 ∧ u.mayBegin = false ∧
      ∀ e : TxEntry, s.tx? x.target = some e →
        (e.cancelled = false → s.ctl.state ≠ .mute →
          u.repl = s.repl ∧ u.port = s.port ∧ u.engine.staging = s.engine.staging ∧
            u.engine.queue =
              s.engine.queue.map fun d => if d.target = x.target then { d with renew := false } else d) ∧
        (e.cancelled = true ∨ s.ctl.state = .mute →
          u.engine.queue = (s.engine.queue.filter fun d => d.target != x.target) ∧
            ((∀ k, x.target ≠ .page k) → u.repl = s.repl ∧ u.port = s.port))

/-- SENT_TO_END (R80, R83, R87, R88, R110): the entry leaves the queue, the threshold is 14 U, and a PAGE with R of 2
or more opens the ack window, its publish waiting for acks (R47). A beacon to be renewed stays with a new insertion time
(R105). The wants asked take a deadline 1 B after the start of the end gap, or 8 B when STALLED, and an ask more, to 6
(R62, R63); the fetch that asked takes its deadline (R70). That the ask count stays at 6 is the model's choice
(notes/assumptions/17.md), and so is that the own receiver's failure with the frame does not matter
(notes/assumptions/29.md). The clock moves to the due moment (notes/assumptions/3.md). -/
def Obligations.SentFrameLeavesTheQueue : Prop :=
  ∀ (s : State) (x : Sending) (e : TxEntry), s.resetLow = false → s.ctl.config.isSome = true →
    s.engine.sending = some x → s.line.tx = .quiet → x.rest = [] → s.tx? x.target = some e →
    let gap := if s.line.high then max s.line.since s.line.txSince else s.line.txSince
    let now := max s.now (gap + 40 * 2 ^ s.cfg.unitCode)
    let after : Line := { s.line with
      bitCount := none, expected := none, high := true, since := gap, fell := false, threshold := 14, idleRef := gap }
    ∃ u : State, exec .sentToEnd s = .next u.settle ∧ u.now = now ∧ u.dir = s.dir ∧ u.members = s.members ∧
      u.ctl = s.ctl ∧ u.array = s.array ∧ u.port = s.port ∧ u.engine.sending = none ∧
      u.repl.landing = s.repl.landing ∧
      u.line =
        (if targetKind x.target = .page ∧ 2 ≤ s.cfg.factor then
          { after with receiver := .window, window := some ⟨gap, true, 0⟩ }
        else { after with receiver := .idle }) ∧
      (e.renew = true → e.cancelled = false → s.ctl.state ≠ .mute →
        u.repl = s.repl ∧ u.engine.queue =
          insertTx ⟨x.target, now, now, false, false, false, false, false⟩
            (s.engine.queue.filter fun d => d.target != x.target)) ∧
      (e.renew = false →
        u.engine.queue = (s.engine.queue.filter fun d => d.target != x.target) ∧
        match x.target with
        | .beacon | .repair _ => u.repl = s.repl
        | .page _ =>
          u.repl.wants = s.repl.wants ∧ u.repl.fetch = s.repl.fetch ∧ u.repl.publish = { s.repl.publish with
            phase := if s.repl.publish.phase = .sending then .awaitAcks else s.repl.publish.phase }
        | .want o first count =>
          u.repl.publish = s.repl.publish ∧
          u.repl.wants =
            (if e.byWants && !e.cancelled then
              s.repl.wants.map fun w =>
                if w.key.origin = o ∧ first ≤ w.key.seq ∧ w.key.seq < first + count then
                  match w.state with
                  | .idle => { w with asks := min 6 (w.asks + 1) }
                  | .asked => { w with asks := min 6 (w.asks + 1), next := some (gap + s.cfg.interval) }
                  | .stalled => { w with next := some (gap + 8 * s.cfg.interval) }
                else w
            else s.repl.wants) ∧
          ∀ f : Fetch, s.repl.fetch = some f → e.byFetch = true → e.cancelled = false → f.key = ⟨o, first⟩ →
            f.held = false → u.repl.fetch = some { f with deadline := some (gap + s.cfg.interval) })

/-! ## The ack window, the break and the stuck line -/

/-- ACK_PULSE and ACK_PULSE_END (R89): the pending ack is driven 1 U into its slot of 4 U, for 2 U, and is then
cleared. ACK_SLOT_SAMPLING (R90): the sender of the PAGE finds a slot acked by a low of 1 U or more. Nothing else changes:
the level follows the receiver's measurement, which dates a low from its own fall, whoever drives it (R75, R94; model's
choice, notes/assumptions/22.md). The clock moves to the due moment (notes/assumptions/3.md). -/
def Obligations.AcksAreDrivenAndSampled : Prop :=
  ∀ s : State, s.resetLow = false → s.ctl.config.isSome = true →
    let unit := 16 * 2 ^ s.cfg.unitCode
    (∀ (slot : Nat) (w : Window), s.ctl.stopping = false → s.ctl.state = .joining ∨ s.ctl.state = .active →
      s.line.pendingAck = some slot → s.line.window = some w → s.line.tx = .acking → s.line.driven = false →
      let now := max s.now (w.start + (3 + 4 * (slot - 1) + 1) * unit)
      exec .ackPulse s =
        .next { s with now := now, line := { s.line with driven := true, txSince := now } }) ∧
    (s.line.tx = .acking → s.line.driven = true →
      let now := max s.now (s.line.txSince + 2 * unit)
      exec .ackPulseEnd s = .next { s with
        now := now
        line := { s.line with tx := .quiet, driven := false, txSince := now, pendingAck := none } }) ∧
    (∀ (slot low : Nat) (w : Window), s.line.window = some w → w.mine = true → 1 ≤ slot →
      slot ≤ 2 * (s.cfg.factor - 1) →
      exec (.ackSlotSampling slot low) s = .next { s with
        now := max s.now (w.start + (16 * (3 + 4 * (slot - 1)) + 56) * 2 ^ s.cfg.unitCode)
        line := { s.line with
          window := some ⟨w.start, true, if 16 ≤ low then w.acked ||| (1#8 <<< slot) else w.acked⟩ } })

/-- ACK_WINDOW_END (R83, R88, R90, R91): 3 U + 8 U × (R − 1) after the start of the end gap the window is over, the
receiver in IDLE, and the threshold 14 U at the sender and 6 U elsewhere; the idle count, 0 in the window, runs from its
end (R79). The publish counts its
acks (R48): with R − 1 or more it is SECURED; with fewer, the PAGE is placed again after 32 U × its attempt, and after
the third attempt the publish ends UNDER. An ack not yet begun is dropped with its window (notes/assumptions/18.md).
The clock moves to the due moment (notes/assumptions/3.md). -/
def Obligations.AckWindowDecidesThePublish : Prop :=
  ∀ (s : State) (w : Window), s.resetLow = false → s.ctl.config.isSome = true → s.ctl.stopping = false →
    s.line.window = some w → s.line.receiver = .window →
    let unit := 16 * 2 ^ s.cfg.unitCode
    let closes := w.start + (3 + 8 * (s.cfg.factor - 1)) * unit
    let now := max s.now closes
    let p := s.repl.publish
    let acks := ((List.range 8).filter w.acked.getLsbD).length
    ∃ u : State, exec .ackWindowEnd s = .next u.settle ∧ u.now = now ∧ u.dir = s.dir ∧ u.members = s.members ∧
      u.ctl = s.ctl ∧ u.array = s.array ∧ u.retire = s.retire ∧ u.repl.landing = s.repl.landing ∧
      u.repl.wants = s.repl.wants ∧ u.repl.fetch = s.repl.fetch ∧
      u.line.window = none ∧ u.line.receiver = .idle ∧
      (s.now ≤ closes → s.idleCount = 0) ∧ u.line.idleRef = max s.line.idleRef closes ∧
      u.line.threshold = (if w.mine then 14 else 6) ∧ u.line.counters = s.line.counters ∧
      (s.line.driven = false → u.line.pendingAck = none) ∧
      (w.mine = false ∨ p.phase ≠ .awaitAcks →
        u.repl = s.repl ∧ u.engine = s.engine ∧ u.port = s.port) ∧
      (w.mine = true → p.phase = .awaitAcks → p.overtaken = none →
        (s.cfg.factor - 1 ≤ acks →
          s.tells u (.published p.seq (max p.best acks) .secured) ∧ u.engine = s.engine ∧
            (u.repl.publish.phase = .idle ∨ u.repl.publish.phase = .done)) ∧
        (acks < s.cfg.factor - 1 → p.attempt < 3 → s.ctl.state ≠ .mute →
          u.port = s.port ∧
            u.repl.publish = { p with phase := .sending, attempt := p.attempt + 1, best := max p.best acks } ∧
            u.engine.queue = insertTx
              ⟨.page ⟨s.self, p.seq⟩, now + 32 * p.attempt * unit, now, true, false, false, false, false⟩
              s.engine.queue) ∧
        (acks < s.cfg.factor - 1 → 3 ≤ p.attempt ∨ s.ctl.state = .mute →
          s.tells u (.published p.seq (max p.best acks) .under) ∧ u.engine = s.engine ∧
            (u.repl.publish.phase = .idle ∨ u.repl.publish.phase = .done)))

/-- BREAK_END (R92, R112): after 10 U of break the line is released, its level following the receiver's measurement
(notes/assumptions/22.md), and the queue emptied, with the staging buffer but for a read that is running (R109). BREAK
(R93): a low of 8 U is counted, an ack window ends with the acks found so far, and the receiver is in RECOVERING with 6 U to wait. LINE_STUCK and its clearing (R94): a low of 64 U sets the flag and posts LINE_FAULT; 6 U
of high clear it, post LINE_FAULT and leave the receiver in IDLE, its idle count running from the rise. That RECOVERING begins at once
and an ack not yet begun is dropped are the model's choices (notes/assumptions/18.md), and that a rise no command has
told comes now (notes/assumptions/30.md). The clock moves to the due moment (notes/assumptions/3.md). -/
def Obligations.BreaksAndStuckLinesAreHandled : Prop :=
  ∀ s : State, s.resetLow = false → s.ctl.config.isSome = true →
    let unit := 16 * 2 ^ s.cfg.unitCode
    let unacked : Line :=
      if s.line.driven then s.line
      else { s.line with pendingAck := none, tx := if s.line.tx = .acking then .quiet else s.line.tx }
    (s.line.tx = .breaking →
      let now := max s.now (s.line.txSince + 10 * unit)
      exec .breakEnd s = .next { s with
        now := now
        engine := { s.engine with
          queue := [], sending := none
          staging := s.engine.staging.bind fun b =>
            if b.phase = .reading then some { b with dropped := true } else none }
        line := { s.line with tx := .quiet, driven := false, txSince := now } }) ∧
    ((∀ w, s.line.window = some w → w.mine = false) →
      let now := max s.now (s.line.since + 8 * unit)
      exec .lineBreak s = .next (State.settle { s with
        now := now
        engine := { s.engine with assembly := .empty }
        line := { unacked with
          high := false, since := if s.line.high then now - 128 * 2 ^ s.cfg.unitCode else s.line.since
          fell := if s.line.high then false else s.line.fell
          bitCount := none, expected := none
          receiver := .recovering, recovery := 6, threshold := 6, window := none
          counters := { s.line.counters with lineBreak := min 65535 (s.line.counters.lineBreak + 1) } } })) ∧
    (∀ w : Window, s.line.window = some w → w.mine = true → s.ctl.stopping = false → s.repl.publish.phase = .awaitAcks →
      s.repl.publish.overtaken = none →
      let acks := ((List.range 8).filter w.acked.getLsbD).length
      ∃ u : State, exec .lineBreak s = .next u.settle ∧ u.line.window = none ∧ u.line.receiver = .recovering ∧
        (s.cfg.factor - 1 ≤ acks →
          s.tells u (.published s.repl.publish.seq (max s.repl.publish.best acks) .secured)) ∧
        (acks < s.cfg.factor - 1 → 3 ≤ s.repl.publish.attempt →
          s.tells u (.published s.repl.publish.seq (max s.repl.publish.best acks) .under))) ∧
    (s.line.stuck = false → s.line.high = false →
      exec .lineStuck s = .next (State.post { s with
        now := max s.now (s.line.since + 64 * unit)
        line := { unacked with stuck := true, receiver := .recovering, recovery := 6, threshold := 6 } }
        (.lineFault true))) ∧
    (s.line.stuck = true →
      let rise := if s.line.up then s.line.since else s.now
      exec .lineStuckClear s = .next (State.post { s with
        now := max s.now (rise + 6 * unit)
        line := { s.line with
          stuck := false, high := true, since := rise, fell := false, idleRef := rise, receiver := .idle
          threshold := 6 } } (.lineFault false)))

/-! ## Timers -/

/-- SILENCE_TIMEOUT (R32): 3 B after last-heard a LIVE peer becomes SILENT, with PEER_CHANGE; its last-heard and its
record are kept, and no floor or frontier changes. BEACON_TIMER_EXPIRY (R38, R105): the next expiry is 1 B later, and
a BEACON is queued, replacing one that waits; one in transmission is to be renewed. EARLIEST_START_PASSES (R107): the
moment comes, and nothing else changes. The clock moves to the due moment (notes/assumptions/3.md). -/
def Obligations.SilenceAndBeaconTimersExpire : Prop :=
  ∀ s : State, s.resetLow = false → s.ctl.stopping = false →
    (∀ (p : Station) (heard : Nat), s.ctl.state ∈ [.listening, .joining, .active, .mute, .withdrawn] →
      s.inRoster p = true → p ≠ s.self → (s.peer p).state = .live → (s.peer p).lastHeard = some heard →
      ∃ t, exec (.silenceTimeout p) s = .next t ∧ t.now = max s.now (heard + 3 * s.cfg.interval) ∧
        t.peer p = { s.peer p with state := .silent } ∧ (∀ q, q ≠ p → t.peer q = s.peer q) ∧
        s.tells t (.peerChange p .silent false) ∧ t.line = s.line ∧
        ∀ o : Station, (t.org o).floor = (s.org o).floor ∧ (t.org o).known = (s.org o).known) ∧
    (∀ due : Nat, s.members.beaconTimer = some due →
      let now := max s.now due
      let fresh : TxEntry := ⟨.beacon, now, now, false, false, false, false, false⟩
      let queue : List TxEntry :=
        if s.inTransmission .beacon && (s.tx? .beacon).isSome then
          s.engine.queue.map fun e => if e.target = .beacon then { e with renew := true } else e
        else insertTx fresh (s.engine.queue.filter fun e => e.target != .beacon)
      exec .beaconTimerExpiry s = .next { s with
        now := now
        members := { s.members with beaconTimer := some (due + s.cfg.interval) }
        engine := { s.engine with queue := queue } }) ∧
    (∀ (target : TxTarget) (e : TxEntry), s.tx? target = some e →
      exec (.earliestStartPasses target) s = .next { s with now := max s.now e.earliest })

/-- LISTENING_END (R158, R159): 2 B after its entry LISTENING is left for JOINING, with a STATE notice, the first
expiry of the beacon timer own number × B/16 later (R38), and P of the own origin no less than its K. JOIN_LIMIT
(R160, R161): 16 B after its entry JOINING is left for ACTIVE, with a STATE notice, and JOIN_INCOMPLETE with what
failed. The clock moves to the due moment (notes/assumptions/3.md). -/
def Obligations.ListeningAndJoiningEndInTime : Prop :=
  ∀ s : State, s.resetLow = false → s.ctl.stopping = false →
    (s.ctl.state = .listening →
      let now := max s.now (s.ctl.since + 2 * s.cfg.interval)
      ∃ u : State, exec .listeningEnd s = .next u.settle ∧ u.now = now ∧ u.ctl = { s.ctl with state := .joining, since := now } ∧
        s.tells u (.state .joining) ∧ u.members.peers = s.members.peers ∧
        u.members.beaconTimer = some (now + s.self.val * (s.cfg.interval / 16)) ∧
        (u.org s.self).published = max (s.org s.self).published (s.org s.self).known ∧ u.line = s.line ∧
        u.array = { s.array with blocks := u.array.blocks }) ∧
    (s.ctl.state = .joining →
      let now := max s.now (s.ctl.since + 16 * s.cfg.interval)
      ∃ u : State, exec .joinLimit s = .next u.settle ∧ u.now = now ∧ u.ctl = { s.ctl with state := .active, since := now } ∧
        s.tells u (.state .active) ∧ u.members = s.members ∧ u.line = s.line ∧
        (u.port.notices.getLast? =
            some (.joinIncomplete (!s.holdingsComplete) (!s.frontierHeard) s.repl.wants.length) ∨
          16 ≤ u.port.notices.length ∧ u.port.overflow = true))

/-- WANT_DEADLINE (R62): an ASKED want whose deadline has passed becomes IDLE to be asked again, or with 6 asks
STALLED, with WANT_STALLED, to be asked again 8 B later. STALLED_REASK_DUE (R63): the asking takes the due wants in a
WANT. FETCH_DEADLINE (R70, R71): the next ask of three is placed, or held while a WANT of an earlier fetch waits
(R106); after the third the read ends UNREACHABLE. That an identical WANT is joined before an ask is held is the
model's choice (notes/assumptions/17.md, 27.md), and so are that one that its owners had withdrawn from is cancelled no
more (notes/assumptions/33.md), and that one WANT_DEADLINE takes every want then due, in ascending key order
(notes/assumptions/26.md). The clock moves to the due moment (notes/assumptions/3.md). -/
def Obligations.AsksAreRepeatedUntilTheirLimit : Prop :=
  ∀ s : State, s.resetLow = false → s.ctl.stopping = false →
    (∀ (k : Key) (w : Want) (due : Nat), s.repl.wants.find? (fun w => w.key == k) = some w → w.state = .asked →
      w.next = some due →
      let passed (w : Want) : Bool := w.state == .asked && match w.next with
        | some d => decide (d ≤ due)
        | none => false
      let after (w : Want) : Want :=
        if w.asks < 6 then { w with state := .idle, next := none }
        else { w with state := .stalled, next := w.next.map (· + 8 * s.cfg.interval) }
      let u : State :=
        { s with
          now := max s.now due
          repl := { s.repl with wants := s.repl.wants.map fun w => if passed w then after w else w } }
      let stalled := s.repl.wants.filter fun w => passed w && decide (6 ≤ w.asks)
      exec (.wantDeadline k) s =
        .next (stalled.foldl (fun (x : State) w => x.post (.wantStalled w.key)) u).settle) ∧
    (∀ (k : Key) (w : Want) (due : Nat), s.repl.wants.find? (fun w => w.key == k) = some w → w.state = .stalled →
      w.next = some due →
      exec (.stalledReaskDue k) s = .next (State.settle { s with now := max s.now due }) ∧
      (s.ctl.state = .active → s.array.running ≠ none → s.engine.queue.any (·.byWants) = false →
        s.repl.fetch = none → (∀ v ∈ s.repl.wants, v.state = .asked ∨ v.key = k) →
        ∃ t, exec (.stalledReaskDue k) s = .next t ∧
          ∃ e ∈ t.engine.queue, e.byWants = true ∧ e.target = .want k.origin k.seq 1)) ∧
    (∀ (f : Fetch) (due : Nat), s.repl.fetch = some f → f.deadline = some due →
      let ask : TxTarget := .want f.key.origin f.key.seq 1
      let again (held : Bool) (queue : List TxEntry) : State :=
        { s with
          now := max s.now due
          repl := { s.repl with fetch := some ⟨f.key, f.ask + 1, none, held⟩ }
          engine := { s.engine with queue := queue } }
      (f.ask < 3 →
        (s.tx? ask ≠ none → exec .fetchDeadline s = .next (again false (s.engine.queue.map fun e =>
          if e.target = ask then { e with byFetch := true, cancelled := false } else e)).settle) ∧
        (s.tx? ask = none → s.engine.queue.any (·.byFetch) = true →
          exec .fetchDeadline s = .next (again true s.engine.queue).settle) ∧
        (s.tx? ask = none → s.engine.queue.any (·.byFetch) = false →
          exec .fetchDeadline s = .next (again false (insertTx
            ⟨ask, max s.now due, max s.now due, false, false, true, false, false⟩ s.engine.queue)).settle)) ∧
      (3 ≤ f.ask →
        exec .fetchDeadline s = .next (State.settle (State.post { s with
          now := max s.now due
          repl := { s.repl with fetch := none }
          port := { s.port with
            read := .held, readRequested := false, readBuffer := some ⟨.unreachable, f.key, []⟩ } }
          (.readDone f.key .unreachable)))))

/-! ## The array -/

/-- PAGE_READ_END (R66, R109, R123, R125, R175): up to 4 bit errors are corrected and the payload delivered, the weak
mark set from 3 on; with more the page is lost (R24) and PAGE_LOST posted. A host read completes, or goes on as a fetch,
or in MUTE ends UNREACHABLE; a staging read stages its REPAIR or removes it. A read of failure handling or of reclaim
makes a copy of the page, or of the mark, for a new slot; a page that is lost is passed by, and an unreadable mark is
made anew from the own floor and P (R129, R139, R143). In a station that is stopping the result is discarded (R134, R151)
and a staging read frees the staging buffer, with an entry still queued too (notes/assumptions/17.md). The number of bit errors is an operand (notes/assumptions/15.md);
that next slot stands at 32 after slot 31 is the model's choice (notes/assumptions/39.md).
The clock moves to the due moment (notes/assumptions/3.md). -/
def Obligations.PageReadDeliversOrLosesThePage : Prop :=
  (∀ (s : State) (src : Source) (k : Key) (l : Loc) (started errors : Nat) (e : Entry) (stamp : Nat) (head data : List Byte)
    (h : PageHeader), s.resetLow = false → s.ctl.stopping = false →
    s.ctl.state ∈ [.listening, .joining, .active, .mute, .withdrawn] →
    s.array.running = some ⟨.read src (.page k) l, started⟩ → s.entry? k = some e → e.place = .live l stamp →
    s.array.flash.slots.read l.number = some (.written head data) → decodeHeader head = .valid h → h.origin = k.origin →
    h.seq = k.seq → h.length = e.length → s.port.readRequested = false →
    ∃ u : State, exec (.pageReadEnd errors) s = .next u.settle ∧ u.now = max s.now (started + 800) ∧
      u.array.running = none ∧ u.array.flash = s.array.flash ∧ u.line = s.line ∧ u.members = s.members ∧ u.ctl = s.ctl ∧
      (u.block l.block).weak = ((s.block l.block).weak || decide (3 ≤ errors)) ∧
      (errors ≤ 4 → u.dir = s.dir ∧
        (src = .host → u.port.read = .held ∧ u.port.readBuffer = some ⟨.ok, k, data⟩ ∧ s.tells u (.readDone k .ok) ∧
          u.repl = s.repl ∧ u.engine = s.engine) ∧
        (src = .staging → s.engine.staging = some ⟨k, .reading, [], false⟩ →
          u.engine.staging = some ⟨k, .staged, data, false⟩ ∧
            u.engine.queue =
              (s.engine.queue.map fun d => if d.target = .repair k then { d with staged := true } else d) ∧
            u.port = s.port ∧ u.repl = s.repl) ∧
        (src = .failure ∨ src = .reclaim → s.array.exhausted = false →
          u.port = s.port ∧ u.repl = s.repl ∧ u.engine = s.engine ∧
            let copy : ProgItem := ⟨.copy k l, ⟨h.tag, h.origin, h.seq, h.role, data⟩⟩
            (src = .failure →
              u.array.failure = { s.array.failure with buffer := some copy } ∧ u.array.reclaim = s.array.reclaim) ∧
            (src = .reclaim →
              u.array.reclaim = { s.array.reclaim with buffer := some copy } ∧ u.array.failure = s.array.failure))) ∧
      (5 ≤ errors → src = .host ∨ src = .staging ∨ src = .failure ∨ src = .reclaim →
        u.entry? k = none ∧ (∀ d : Key, d ≠ k → u.entry? d = s.entry? d) ∧ s.tells u (.pageLost k e.role) ∧
          (src = .host → s.ctl.state ≠ .mute → u.port.read = .fetching ∧
            (u.repl.fetch.map fun f => (f.key, f.ask, f.deadline)) = some (k, 1, none)) ∧
          (src = .host → s.ctl.state = .mute →
            u.port.read = .held ∧ u.port.readBuffer = some ⟨.unreachable, k, []⟩) ∧
          (src = .staging → s.engine.staging = some ⟨k, .reading, [], false⟩ → s.inTransmission (.repair k) = false →
            u.engine.staging = none ∧ u.tx? (.repair k) = none) ∧
          (src = .failure ∨ src = .reclaim → u.array.failure = s.array.failure ∧ u.array.reclaim =
            if src = .reclaim then { s.array.reclaim with nextSlot := l.slot.val + 1 } else s.array.reclaim))) ∧
  (∀ (s : State) (src : Source) (l : Loc) (stamp started errors : Nat) (head data : List Byte) (h : PageHeader),
    s.resetLow = false → s.ctl.stopping = false → src = .failure ∨ src = .reclaim → s.array.exhausted = false →
    s.array.running = some ⟨.read src .mark l, started⟩ → s.dir.mark = some ⟨l, stamp⟩ →
    s.array.flash.slots.read l.number = some (.written head data) → decodeHeader head = .valid h → h.role = .mark →
    let copy : ProgItem :=
      if errors ≤ 4 then ⟨.markCopy l, ⟨h.tag, h.origin, h.seq, .mark, data⟩⟩
      else ⟨.freshMark l, ⟨s.cfg.tag, s.self, (s.org s.self).floor, .mark, bytes3 (s.org s.self).published⟩⟩
    ∃ u : State, exec (.pageReadEnd errors) s = .next u.settle ∧ u.now = max s.now (started + 800) ∧
      u.array.running = none ∧ u.array.flash = s.array.flash ∧ u.dir = s.dir ∧ u.port = s.port ∧ u.repl = s.repl ∧
      u.array.failure =
        (if src = .failure then { s.array.failure with buffer := some copy } else s.array.failure) ∧
      u.array.reclaim =
        (if src = .reclaim then { s.array.reclaim with buffer := some copy } else s.array.reclaim)) ∧
  (∀ (s : State) (src : Source) (target : ReadTarget) (l : Loc) (started errors : Nat), s.resetLow = false →
    s.ctl.stopping = true → s.array.running = some ⟨.read src target l, started⟩ →
    exec (.pageReadEnd errors) s = .next { s with
      now := max s.now (started + 800)
      array := { s.array with running := none }
      engine := { s.engine with staging := if src = .staging then none else s.engine.staging } })

/-- PAGE_PROGRAM_END of a landing page, programmed by its own request or as the pending page that failure handling
programs again (R18, R57, R116, R124, R129): OK leaves the page in its slot and makes its entry LIVE there; the buffer
is free and the page has left the Landing Queue, and a pending page is pending no more. FAIL (R128): the block is CLOSED
and failing, at the tail of the failing list, the page is the pending page, and its entry and buffer stay. That the slot
then reads INVALID is deduced (notes/assumptions/11.md). -/
def Obligations.LandingProgramEndsInItsSlot : Prop :=
  ∀ (s : State) (src : Source) (k : Key) (i : Fin 4) (image : PageImage) (l : Loc) (stamp started : Nat) (e : Entry),
    s.resetLow = false → s.ctl.stopping = false →
    src = .landing ∨ src = .failure ∧ s.array.failure.page ≠ none →
    s.array.running = some ⟨.program src ⟨.landing k i, image⟩ l stamp, started⟩ → s.entry? k = some e →
    e.place = .landing (.landing i) → stamp < stampMax → l.block ∉ s.array.freeList →
    ∃ t u : State, exec (.pageProgramEnd true) s = .next t.settle ∧ exec (.pageProgramEnd false) s = .next u.settle ∧
      (∀ x ∈ [t, u], x.array.running = none ∧ x.now = s.now ∧ x.line = s.line ∧ x.port = s.port ∧ x.engine = s.engine ∧
        x.members = s.members ∧ x.ctl = s.ctl ∧ x.dir.origins = s.dir.origins ∧
        (∀ d : Key, d ≠ k → x.entry? d = s.entry? d) ∧ (∀ b : Block, b ≠ l.block → (x.block b).live = (s.block b).live)) ∧
      t.array.flash.slots.read l.number = some (.written (image.header stamp).encode image.payload) ∧
      (∀ a, a ≠ l.number → t.array.flash.slots.read a = s.array.flash.slots.read a) ∧
      t.entry? k = some { e with place := .live l stamp } ∧ (t.block l.block).live = (s.block l.block).live + 1 ∧
      t.repl.landing.buffers.get i = none ∧ t.repl.landing.queue = s.repl.landing.queue.erase i ∧
      t.repl.landing.granted = none ∧ t.array.reclaim = s.array.reclaim ∧
      t.array.failure =
        (if src = .failure then { s.array.failure with page := none } else s.array.failure) ∧
      u.array.flash = s.array.flash ∧ u.entry? k = some e ∧ u.repl = s.repl ∧ (u.block l.block).state = .closed ∧
      (u.block l.block).failing = true ∧ u.array.failure.failing = s.array.failure.failing ++ [l.block] ∧
      u.array.failure.page.map (·.1) = some ⟨.landing k i, image⟩

/-- PAGE_PROGRAM_END of a publish program, a mark program and a relocation copy, by its own source or as the pending
page that failure handling programs again (R19, R20, R46, R129, R136, R137, R143). OK: the publish's PAGE is queued for
its first attempt, with R of 1 the publish is SECURED, and in MUTE it ends UNDER (R52; with R of 1 too,
notes/assumptions/16.md); the mark entry names the new mark, the own floor rises to the floor asked for, RETIRED_DONE is
posted, and the retirement is IDLE; a copied page's entry, or for the copy of a mark or a fresh mark the mark entry
(R139), names the new slot, the live counts follow, and the sequence's buffer is free, reclaim going on with the next
slot. FAIL (R128, R130): the block is CLOSED and failing, at the tail of the failing list, and the page pending, with
the source whose program of it failed first; entry, buffers and owners stay. The INVALID slot is deduced
(notes/assumptions/11.md); that next slot stands at 32 after slot 31 is the model's choice (notes/assumptions/39.md). -/
def Obligations.PublishAndMarkProgramsReachTheirOwners : Prop :=
  ∀ (s : State) (item : ProgItem) (src : Source) (l : Loc) (stamp started : Nat), s.resetLow = false →
    s.ctl.stopping = false → s.array.running = some ⟨.program src item l stamp, started⟩ → stamp < stampMax →
    s.inRoster s.self = true →
    let p := s.repl.publish
    let pending := s.array.failure.page
    let retried (first : Source) : Prop := ∃ i, pending = some (i, first)
    let copied (old : Loc) (u : State) : Prop :=
      let past : Reclaim := { s.array.reclaim with buffer := none, nextSlot := old.slot.val + 1 }
      (src = .reclaim → u.array.reclaim = past ∧ u.array.failure = s.array.failure) ∧
      (src = .failure → pending = none →
        u.array.failure = { s.array.failure with buffer := none } ∧ u.array.reclaim = s.array.reclaim) ∧
      (src = .failure → ∀ first, retried first → u.array.failure = { s.array.failure with page := none } ∧
        u.array.reclaim = if first = .reclaim then past else s.array.reclaim)
    ∃ u v : State, exec (.pageProgramEnd true) s = .next u.settle ∧ exec (.pageProgramEnd false) s = .next v.settle ∧
      (∀ x ∈ [u, v], x.array.running = none ∧ x.now = s.now ∧ x.line = s.line ∧ x.members = s.members ∧ x.ctl = s.ctl) ∧
      (∀ e : Entry, src = .publish ∧ pending = none ∨ src = .failure ∧ retried .publish →
        item.owner = .publish ⟨s.self, p.seq⟩ → s.entry? ⟨s.self, p.seq⟩ = some e →
        e.place = .landing .publish → p.phase = .programming → s.ctl.state ≠ .mute →
        u.entry? ⟨s.self, p.seq⟩ = some { e with place := .live l stamp } ∧
          (s.cfg.factor ≠ 1 →
            u.repl.publish = { p with phase := .sending, attempt := 1 } ∧ u.port = s.port ∧
              u.engine.queue = insertTx
                ⟨.page ⟨s.self, p.seq⟩, s.now, s.now, true, false, false, false, false⟩ s.engine.queue) ∧
          (s.cfg.factor = 1 →
            u.repl.publish = ⟨.idle, 0, 0, 0, none, none, false, none⟩ ∧ u.engine = s.engine ∧
              s.tells u (.published p.seq p.best .secured))) ∧
      (∀ e : Entry, src = .publish ∧ pending = none ∨ src = .failure ∧ retried .publish →
        item.owner = .publish ⟨s.self, p.seq⟩ → s.entry? ⟨s.self, p.seq⟩ = some e →
        e.place = .landing .publish → p.phase = .programming → s.ctl.state = .mute →
        u.entry? ⟨s.self, p.seq⟩ = some { e with place := .live l stamp } ∧
          u.repl.publish = ⟨.idle, 0, 0, 0, none, none, false, none⟩ ∧ u.engine = s.engine ∧
          s.tells u (.published p.seq p.best .under)) ∧
      (∀ f : Nat, src = .mark ∨ src = .reclaim ∨ src = .failure → item.owner = .mark → s.retire.marking = some f →
        u.dir.mark = some ⟨l, stamp⟩ ∧ (u.org s.self).floor = max (s.org s.self).floor f ∧ u.retire = ⟨none, false⟩ ∧
          (.retiredDone f true ∈ u.port.notices ∨ 16 ≤ u.port.notices.length ∧ u.port.overflow = true)) ∧
      (∀ (k : Key) (old : Loc) (e : Entry) (m : Nat), src = .reclaim ∨ src = .failure → item.owner = .copy k old →
        s.entry? k = some e → e.place = .live old m →
        u.entry? k = some { e with place := .live l stamp } ∧ (∀ d : Key, d ≠ k → u.entry? d = s.entry? d) ∧
          u.dir.origins = s.dir.origins ∧ u.repl = s.repl ∧ u.port = s.port ∧ u.engine = s.engine ∧
          (old.block ≠ l.block → (u.block l.block).live = (s.block l.block).live + 1 ∧
            (u.block old.block).live = (s.block old.block).live - 1) ∧
          copied old u) ∧
      (∀ (old : Loc) (m : Nat), src = .reclaim ∨ src = .failure →
        item.owner = .markCopy old ∨ item.owner = .freshMark old → s.dir.mark = some ⟨old, m⟩ →
        u.dir = { s.dir with mark := some ⟨l, stamp⟩ } ∧ u.repl = s.repl ∧ u.port = s.port ∧ u.engine = s.engine ∧
          u.retire = s.retire ∧
          (old.block ≠ l.block → (u.block l.block).live = (s.block l.block).live + 1 ∧
            (u.block old.block).live = (s.block old.block).live - 1) ∧
          copied old u) ∧
      v.array.flash = s.array.flash ∧ v.dir = s.dir ∧ v.repl = s.repl ∧ v.engine = s.engine ∧ v.port = s.port ∧
      v.retire = s.retire ∧ v.array.failure.failing = s.array.failure.failing ++ [l.block] ∧
      (l.block ∉ s.array.freeList → (v.block l.block).state = .closed ∧ (v.block l.block).failing = true) ∧
      (pending = none → v.array.failure.page = some (item, src)) ∧
      (∀ first, retried first → v.array.failure.page = some (item, first)) ∧
      v.array.reclaim.victim = s.array.reclaim.victim ∧ v.array.reclaim.buffer = s.array.reclaim.buffer ∧
      v.array.reclaim.nextSlot = s.array.reclaim.nextSlot

/-- TAG_PROGRAM_END (R131, R132): whatever the outcome, the block is BAD and no longer failing, STORAGE is posted with
its reason, and the Bad Block Table takes a record while it has room; with 32 records storage is exhausted, and the
station is in WITHDRAWN, or stays in MUTE. -/
def Obligations.RetiredBlockIsRecorded : Prop :=
  ∀ (s : State) (ok : Bool) (src : Source) (b : Block) (reason : StorageReason) (stamp started : Nat),
    s.resetLow = false → s.ctl.stopping = false → s.array.running = some ⟨.tag src b reason stamp, started⟩ →
    stamp < stampMax → s.ctl.state ∈ [.listening, .joining, .active, .mute] → s.array.exhausted = false →
    ∃ u : State, exec (.tagProgramEnd ok) s = .next u.settle ∧ u.array.running = none ∧ u.now = s.now ∧ u.line = s.line ∧
      (u.block b).state = .bad ∧ (u.block b).failing = false ∧ u.array.flash.slots = s.array.flash.slots ∧
      (ok = true →
        u.array.flash.tags.read b.val = some (.written (encodeRetired reason stamp) [])) ∧
      s.tells u (.storage reason b (decide (s.array.badTable.length < 32))) ∧
      (src = .failure → u.array.failure.failing = s.array.failure.failing.erase b) ∧
      (src = .reclaim → u.array.reclaim.victim = none) ∧
      (s.array.badTable.length < 32 →
        u.array.badTable = s.array.badTable ++ [b] ∧ u.ctl = s.ctl ∧ u.dir = s.dir ∧ u.repl = s.repl) ∧
      (32 ≤ s.array.badTable.length →
        u.array.badTable = s.array.badTable ∧ u.array.exhausted = true ∧
          u.ctl.state = if s.ctl.state = .mute then .mute else .withdrawn)

/-- ERASE_END (R117, R126, R144): OK leaves every slot and the tag of the block blank, and the block FREE at the tail of
the Free Block List, whose head is opened when no block is OPEN; reclaim's cycle is over. FAIL: the block is to be
retired with reason ERASE, and each slot or tag of the block is as it was, blank or INVALID (notes/assumptions/6.md). That
next slot is 0 after the cycle is the model's choice (notes/assumptions/39.md). -/
def Obligations.ErasedBlockIsFreeOrToBeRetired : Prop :=
  ∀ (s : State) (b : Block) (started : Nat), s.resetLow = false → s.ctl.stopping = false →
    s.array.running = some ⟨.erase b, started⟩ →
    ∃ t u : State, exec (.eraseEnd true) s = .next t.settle ∧ exec (.eraseEnd false) s = .next u.settle ∧
      (∀ x ∈ [t, u], x.array.running = none ∧ x.now = s.now ∧ x.line = s.line ∧ x.port = s.port ∧ x.engine = s.engine ∧
        x.members = s.members ∧ x.ctl = s.ctl ∧ x.dir = s.dir ∧ x.repl = s.repl ∧ x.retire = s.retire ∧
        ∀ a, (a / 32 ≠ b.val → x.array.flash.slots.read a = s.array.flash.slots.read a) ∧
          (a ≠ b.val → x.array.flash.tags.read a = s.array.flash.tags.read a)) ∧
      (∀ slot : Slot, t.array.flash.slots.read (32 * b.val + slot.val) = none) ∧ t.array.flash.tags.read b.val = none ∧
      t.array.reclaim = { s.array.reclaim with victim := none, step := .search, nextSlot := 0 } ∧
      ((∃ d : Block, s.openBlock = some d ∧ d ≠ b) →
        t.array.freeList = s.array.freeList ++ [b] ∧ t.block b = ⟨.free, 0, 0, false, false⟩) ∧
      (s.openBlock = none → ∀ d rest, s.array.freeList ++ [b] = d :: rest →
        t.array.freeList = rest ∧ (t.block d).state = .opened ∧ (t.block d).used = 0) ∧
      (∀ slot : Slot,
        let cell := u.array.flash.slots.read (32 * b.val + slot.val)
        cell = s.array.flash.slots.read (32 * b.val + slot.val) ∨ cell = none ∨ cell = some .torn) ∧
      (u.array.flash.tags.read b.val = s.array.flash.tags.read b.val ∨ u.array.flash.tags.read b.val = none) ∧
      u.array.reclaim = { s.array.reclaim with step := .retire .erase } ∧ u.array.blocks = s.array.blocks ∧
      u.array.freeList = s.array.freeList

/-- The grant order and the relocation reserve (R116, R118, R120 to R122), while the array is free. A request of failure
handling comes first: the pending page is programmed with the data it has (R129, R137), and without one the next live
page of the failing block is read, or its tag programmed. With a free count of 2 or less a request of reclaim comes next
(R120, R143, R144): the mark it has taken over (R148), and without one its erase, its tag, the read of the next slot
named, or the copy read. With neither, a staging read comes before a host read, and a host read before a publish, a
landing and a mark program, in this order; reclaim comes last. A program takes the slot that the OPEN block's used count
names and the next stamp; with a free count of 1 or less no publish, landing or mark program is granted (R121). -/
def Obligations.ArbiterGrantsInOrder : Prop :=
  (∀ s : State, s.array.running = none → s.failureStep = none → (s.freeCount ≤ 2 → s.reclaimStep = none) →
    let granted (op : ArrayOp) : Option Running := some ⟨op, s.now⟩
    let live (k : Key) (l : Loc) : Prop :=
      (s.org k.origin).floor ≤ k.seq ∧ ∃ e stamp, s.entry? k = some e ∧ e.place = .live l stamp
    (∀ (k : Key) (l : Loc), s.engine.staging = some ⟨k, .requested, [], false⟩ → live k l →
      s.grant = { s with
        engine := { s.engine with staging := some ⟨k, .reading, [], false⟩ }
        array := { s.array with running := granted (.read .staging (.page k) l) } }) ∧
    (∀ (k : Key) (l : Loc), s.stagingRead = none → s.port.readRequested = true → s.port.readKey = some k → live k l →
      s.grant = { s with
        port := { s.port with readRequested := false }
        array := { s.array with running := granted (.read .host (.page k) l) } }) ∧
    (∀ (payload : List Byte) (b : Block), s.stagingRead = none → s.hostRead = none → s.repl.publish.requested = true →
      s.repl.publish.buffer = some payload → s.openBlock = some b → s.array.exhausted = false → 2 ≤ s.freeCount →
      let l : Loc := ⟨b, Fin.ofNat 32 (s.block b).used⟩
      let item : ProgItem :=
        ⟨.publish ⟨s.self, s.repl.publish.seq⟩, ⟨s.cfg.tag, s.self, s.repl.publish.seq, .self, payload⟩⟩
      s.grant.array.running = granted (.program .publish item l s.array.nextStamp) ∧
        s.grant.array.nextStamp = s.array.nextStamp + 1 ∧ (s.grant.block b).used = (s.block b).used + 1 ∧
        s.grant.repl.publish = { s.repl.publish with requested := false } ∧ s.grant.dir = s.dir ∧
        s.grant.port = s.port ∧ s.grant.line = s.line ∧ s.grant.engine = s.engine) ∧
    (∀ (p : LandingPage) (i : Fin 4) (rest : List (Fin 4)) (b : Block), s.stagingRead = none → s.hostRead = none →
      s.repl.publish.requested = false → s.repl.landing.requested = true → s.repl.landing.queue = i :: rest →
      s.repl.landing.buffers.get i = some p → s.openBlock = some b → s.array.exhausted = false → 2 ≤ s.freeCount →
      s.grant.array.running = granted (.program .landing
          ⟨.landing p.key i, ⟨s.cfg.tag, p.key.origin, p.key.seq, p.role, p.payload⟩⟩
          ⟨b, Fin.ofNat 32 (s.block b).used⟩ s.array.nextStamp) ∧
        s.grant.array.nextStamp = s.array.nextStamp + 1 ∧ (s.grant.block b).used = (s.block b).used + 1 ∧
        s.grant.repl = { s.repl with landing := { s.repl.landing with requested := false, granted := some i } } ∧
        s.grant.dir = s.dir ∧ s.grant.port = s.port ∧ s.grant.retire = s.retire) ∧
    (∀ (f : Nat) (b : Block), s.stagingRead = none → s.hostRead = none → s.repl.publish.requested = false →
      s.repl.landing.requested = false → s.retire = ⟨some f, true⟩ → s.openBlock = some b → s.array.exhausted = false →
      2 ≤ s.freeCount →
      s.grant.array.running = granted (.program .mark
          ⟨.mark, ⟨s.cfg.tag, s.self, f, .mark, bytes3 (s.org s.self).published⟩⟩
          ⟨b, Fin.ofNat 32 (s.block b).used⟩ s.array.nextStamp) ∧
        s.grant.array.nextStamp = s.array.nextStamp + 1 ∧ (s.grant.block b).used = (s.block b).used + 1 ∧
        s.grant.retire = ⟨some f, false⟩ ∧ s.grant.repl = s.repl ∧ s.grant.dir = s.dir ∧ s.grant.port = s.port) ∧
    (∀ v : Block, 3 ≤ s.freeCount → s.stagingRead = none → s.hostRead = none → s.repl.publish.requested = false →
      s.repl.landing.requested = false → s.retire.requested = false → s.reclaimStep = some (.erase v) →
      s.grant = { s with array := { s.array with running := granted (.erase v) } }) ∧
    (s.freeCount ≤ 1 → ∀ r item l stamp started, s.grant.array.running = some r →
      r ≠ ⟨.program .publish item l stamp, started⟩ ∧ r ≠ ⟨.program .landing item l stamp, started⟩ ∧
        r ≠ ⟨.program .mark item l stamp, started⟩)) ∧
  (∀ s : State, s.array.running = none → s.array.exhausted = false →
    let granted (op : ArrayOp) : Option Running := some ⟨op, s.now⟩
    (∀ (item : ProgItem) (first : Source) (b : Block), s.array.failure.page = some (item, first) → s.openBlock = some b →
      s.grant.array.running =
        granted (.program .failure item ⟨b, Fin.ofNat 32 (s.block b).used⟩ s.array.nextStamp)) ∧
    (s.array.failure.page = none → s.array.failure.buffer = none → ∀ b rest, s.array.failure.failing = b :: rest →
      ((s.block b).live = 0 → s.grant.array.running = granted (.tag .failure b .program s.array.nextStamp)) ∧
      (∀ slot target, (s.block b).live ≠ 0 → s.firstNamed b 0 = some (slot, target) →
        s.grant.array.running = granted (.read .failure target ⟨b, slot⟩))) ∧
    (s.array.failure.page = none → s.array.failure.failing = [] → s.freeCount ≤ 2 →
      s.ctl.state ∈ [.listening, .joining, .active, .mute] →
      (∀ f b, s.array.reclaim.mark = true → s.retire.marking = some f → s.openBlock = some b →
        s.grant.array.running = granted (.program .reclaim
          ⟨.mark, ⟨s.cfg.tag, s.self, f, .mark, bytes3 (s.org s.self).published⟩⟩
          ⟨b, Fin.ofNat 32 (s.block b).used⟩ s.array.nextStamp)) ∧
      (s.array.reclaim.mark = false → ∀ v, s.array.reclaim.victim = some v →
        (s.array.reclaim.step = .erase → s.grant.array.running = granted (.erase v)) ∧
        (∀ reason, s.array.reclaim.step = .retire reason →
          s.grant.array.running = granted (.tag .reclaim v reason s.array.nextStamp)) ∧
        (s.array.reclaim.step = .relocate → s.array.reclaim.buffer = none → ∀ slot target,
          s.firstNamed v s.array.reclaim.nextSlot = some (slot, target) →
          s.grant.array.running = granted (.read .reclaim target ⟨v, slot⟩)) ∧
        (∀ k old image b, s.array.reclaim.step = .relocate → s.array.reclaim.buffer = some ⟨.copy k old, image⟩ →
          s.openBlock = some b → s.grant.array.running = granted (.program .reclaim ⟨.copy k old, image⟩
            ⟨b, Fin.ofNat 32 (s.block b).used⟩ s.array.nextStamp)))))
end

