-- ==== Sys2Proof/Laws/Table.lean ====
section
/-! SUPPORT. Tables with one place changed, and folds over a list of stations or keys that keep a part of the state. -/

namespace Sys2Proof.Machine

/-- Reading a table with one place changed. -/
@[simp] theorem upd_get {α : Type} {n : Nat} (v : Vector α n) (i j : Fin n) (f : α → α) :
    (upd v i f).get j = if i = j then f (v.get j) else v.get j := by
  have hg (w : Vector α n) (k : Fin n) : w.get k = w[k.val] := rfl
  rw [hg, hg, upd, Vector.getElem_set]
  rcases Decidable.em (i = j) with h | h
  · subst h
    simp [hg]
  · simp [h, Fin.val_ne_of_ne h]

/-- A fold keeps what each of its steps keeps. -/
theorem foldl_keep {α β : Type} (g : State → α) (f : State → β → State) (h : ∀ s b, g (f s b) = g s) (l : List β)
    (s : State) : g (l.foldl f s) = g s := by
  induction l generalizing s with
  | nil => rfl
  | cons b l ih => exact (ih (f s b)).trans (h s b)

/-- A fold keeps an invariant that each of its steps keeps. -/
theorem foldl_inv {β : Type} (P : State → Prop) (f : State → β → State) (h : ∀ s b, P s → P (f s b)) (l : List β)
    (s : State) (hs : P s) : P (l.foldl f s) := by
  induction l generalizing s with
  | nil => exact hs
  | cons b l ih => exact ih (f s b) (h s b hs)

end Sys2Proof.Machine
end

