-- ==== Sys2Proof/Laws/State.lean ====
section
/-! SUPPORT. The small lemmas of the state: for each operation of Machine/Ops.lean, the parts it keeps, and the part that each setter sets. -/

namespace Sys2Proof.Machine

set_option linter.unusedSimpArgs false

@[simp] theorem State.reach_frame (s : State) (t : Nat) :
    (s.reach t).pending = s.pending ∧
    (s.reach t).resetLow = s.resetLow ∧
    (s.reach t).selLow = s.selLow ∧
    (s.reach t).ctl = s.ctl ∧
    (s.reach t).members = s.members ∧
    (s.reach t).dir = s.dir ∧
    (s.reach t).repl = s.repl ∧
    (s.reach t).line = s.line ∧
    (s.reach t).engine = s.engine ∧
    (s.reach t).array = s.array ∧
    (s.reach t).retire = s.retire ∧
    (s.reach t).port = s.port :=
  ⟨rfl, rfl, rfl, rfl, rfl, rfl, rfl, rfl, rfl, rfl, rfl, rfl⟩

@[simp] theorem State.tick_frame (s : State) :
    s.tick.pending = s.pending ∧
    s.tick.resetLow = s.resetLow ∧
    s.tick.selLow = s.selLow ∧
    s.tick.ctl = s.ctl ∧
    s.tick.members = s.members ∧
    s.tick.dir = s.dir ∧
    s.tick.repl = s.repl ∧
    s.tick.line = s.line ∧
    s.tick.engine = s.engine ∧
    s.tick.array = s.array ∧
    s.tick.retire = s.retire ∧
    s.tick.port = s.port :=
  ⟨rfl, rfl, rfl, rfl, rfl, rfl, rfl, rfl, rfl, rfl, rfl, rfl⟩

@[simp] theorem State.post_frame (s : State) (n : Notice) :
    (s.post n).pending = s.pending ∧
    (s.post n).now = s.now ∧
    (s.post n).resetLow = s.resetLow ∧
    (s.post n).selLow = s.selLow ∧
    (s.post n).ctl = s.ctl ∧
    (s.post n).members = s.members ∧
    (s.post n).dir = s.dir ∧
    (s.post n).repl = s.repl ∧
    (s.post n).line = s.line ∧
    (s.post n).engine = s.engine ∧
    (s.post n).array = s.array ∧
    (s.post n).retire = s.retire ∧
    (s.post n).port.selected = s.port.selected ∧
    (s.post n).port.decoder = s.port.decoder ∧
    (s.post n).port.taken = s.port.taken ∧
    (s.post n).port.response = s.port.response ∧
    (s.post n).port.read = s.port.read ∧
    (s.post n).port.readKey = s.port.readKey ∧
    (s.post n).port.readRequested = s.port.readRequested ∧
    (s.post n).port.readBuffer = s.port.readBuffer :=
  by unfold State.post; (repeat' split) <;> simp

@[simp] theorem State.enter_frame (s : State) (st : StationState) :
    (s.enter st).pending = s.pending ∧
    (s.enter st).now = s.now ∧
    (s.enter st).resetLow = s.resetLow ∧
    (s.enter st).selLow = s.selLow ∧
    (s.enter st).ctl.stopping = s.ctl.stopping ∧
    (s.enter st).ctl.config = s.ctl.config ∧
    (s.enter st).members = s.members ∧
    (s.enter st).dir = s.dir ∧
    (s.enter st).repl = s.repl ∧
    (s.enter st).line = s.line ∧
    (s.enter st).engine = s.engine ∧
    (s.enter st).array = s.array ∧
    (s.enter st).retire = s.retire ∧
    (s.enter st).port.selected = s.port.selected ∧
    (s.enter st).port.decoder = s.port.decoder ∧
    (s.enter st).port.taken = s.port.taken ∧
    (s.enter st).port.response = s.port.response ∧
    (s.enter st).port.read = s.port.read ∧
    (s.enter st).port.readKey = s.port.readKey ∧
    (s.enter st).port.readRequested = s.port.readRequested ∧
    (s.enter st).port.readBuffer = s.port.readBuffer :=
  by unfold State.enter; (repeat' split) <;> simp

@[simp] theorem State.putSlot_frame (s : State) (l : Loc) (c : FlashCell) :
    (s.putSlot l c).pending = s.pending ∧
    (s.putSlot l c).now = s.now ∧
    (s.putSlot l c).resetLow = s.resetLow ∧
    (s.putSlot l c).selLow = s.selLow ∧
    (s.putSlot l c).ctl = s.ctl ∧
    (s.putSlot l c).members = s.members ∧
    (s.putSlot l c).dir = s.dir ∧
    (s.putSlot l c).repl = s.repl ∧
    (s.putSlot l c).line = s.line ∧
    (s.putSlot l c).engine = s.engine ∧
    (s.putSlot l c).array.blocks = s.array.blocks ∧
    (s.putSlot l c).array.freeList = s.array.freeList ∧
    (s.putSlot l c).array.badTable = s.array.badTable ∧
    (s.putSlot l c).array.nextStamp = s.array.nextStamp ∧
    (s.putSlot l c).array.running = s.array.running ∧
    (s.putSlot l c).array.failure = s.array.failure ∧
    (s.putSlot l c).array.reclaim = s.array.reclaim ∧
    (s.putSlot l c).array.full = s.array.full ∧
    (s.putSlot l c).array.exhausted = s.array.exhausted ∧
    (s.putSlot l c).array.scan = s.array.scan ∧
    (s.putSlot l c).array.erasesLost = s.array.erasesLost ∧
    (s.putSlot l c).retire = s.retire ∧
    (s.putSlot l c).port = s.port :=
  ⟨rfl, rfl, rfl, rfl, rfl, rfl, rfl, rfl, rfl, rfl, rfl, rfl, rfl, rfl, rfl, rfl, rfl, rfl, rfl, rfl, rfl, rfl, rfl⟩

@[simp] theorem State.putTag_frame (s : State) (b : Block) (c : FlashCell) :
    (s.putTag b c).pending = s.pending ∧
    (s.putTag b c).now = s.now ∧
    (s.putTag b c).resetLow = s.resetLow ∧
    (s.putTag b c).selLow = s.selLow ∧
    (s.putTag b c).ctl = s.ctl ∧
    (s.putTag b c).members = s.members ∧
    (s.putTag b c).dir = s.dir ∧
    (s.putTag b c).repl = s.repl ∧
    (s.putTag b c).line = s.line ∧
    (s.putTag b c).engine = s.engine ∧
    (s.putTag b c).array.blocks = s.array.blocks ∧
    (s.putTag b c).array.freeList = s.array.freeList ∧
    (s.putTag b c).array.badTable = s.array.badTable ∧
    (s.putTag b c).array.nextStamp = s.array.nextStamp ∧
    (s.putTag b c).array.running = s.array.running ∧
    (s.putTag b c).array.failure = s.array.failure ∧
    (s.putTag b c).array.reclaim = s.array.reclaim ∧
    (s.putTag b c).array.full = s.array.full ∧
    (s.putTag b c).array.exhausted = s.array.exhausted ∧
    (s.putTag b c).array.scan = s.array.scan ∧
    (s.putTag b c).array.erasesLost = s.array.erasesLost ∧
    (s.putTag b c).retire = s.retire ∧
    (s.putTag b c).port = s.port :=
  ⟨rfl, rfl, rfl, rfl, rfl, rfl, rfl, rfl, rfl, rfl, rfl, rfl, rfl, rfl, rfl, rfl, rfl, rfl, rfl, rfl, rfl, rfl, rfl⟩

@[simp] theorem State.setBlock_frame (s : State) (b : Block) (f : BlockRec → BlockRec) :
    (s.setBlock b f).pending = s.pending ∧
    (s.setBlock b f).now = s.now ∧
    (s.setBlock b f).resetLow = s.resetLow ∧
    (s.setBlock b f).selLow = s.selLow ∧
    (s.setBlock b f).ctl = s.ctl ∧
    (s.setBlock b f).members = s.members ∧
    (s.setBlock b f).dir = s.dir ∧
    (s.setBlock b f).repl = s.repl ∧
    (s.setBlock b f).line = s.line ∧
    (s.setBlock b f).engine = s.engine ∧
    (s.setBlock b f).array.flash = s.array.flash ∧
    (s.setBlock b f).array.freeList = s.array.freeList ∧
    (s.setBlock b f).array.badTable = s.array.badTable ∧
    (s.setBlock b f).array.nextStamp = s.array.nextStamp ∧
    (s.setBlock b f).array.running = s.array.running ∧
    (s.setBlock b f).array.failure = s.array.failure ∧
    (s.setBlock b f).array.reclaim = s.array.reclaim ∧
    (s.setBlock b f).array.full = s.array.full ∧
    (s.setBlock b f).array.exhausted = s.array.exhausted ∧
    (s.setBlock b f).array.scan = s.array.scan ∧
    (s.setBlock b f).array.erasesLost = s.array.erasesLost ∧
    (s.setBlock b f).retire = s.retire ∧
    (s.setBlock b f).port = s.port :=
  ⟨rfl, rfl, rfl, rfl, rfl, rfl, rfl, rfl, rfl, rfl, rfl, rfl, rfl, rfl, rfl, rfl, rfl, rfl, rfl, rfl, rfl, rfl, rfl⟩

@[simp] theorem State.openNext_frame (s : State) :
    s.openNext.pending = s.pending ∧
    s.openNext.now = s.now ∧
    s.openNext.resetLow = s.resetLow ∧
    s.openNext.selLow = s.selLow ∧
    s.openNext.ctl = s.ctl ∧
    s.openNext.members = s.members ∧
    s.openNext.dir = s.dir ∧
    s.openNext.repl = s.repl ∧
    s.openNext.line = s.line ∧
    s.openNext.engine = s.engine ∧
    s.openNext.array.flash = s.array.flash ∧
    s.openNext.array.badTable = s.array.badTable ∧
    s.openNext.array.nextStamp = s.array.nextStamp ∧
    s.openNext.array.running = s.array.running ∧
    s.openNext.array.failure = s.array.failure ∧
    s.openNext.array.reclaim = s.array.reclaim ∧
    s.openNext.array.full = s.array.full ∧
    s.openNext.array.exhausted = s.array.exhausted ∧
    s.openNext.array.scan = s.array.scan ∧
    s.openNext.array.erasesLost = s.array.erasesLost ∧
    s.openNext.retire = s.retire ∧
    s.openNext.port = s.port :=
  by unfold State.openNext; (repeat' split) <;> simp

@[simp] theorem State.setOrg_frame (s : State) (o : Station) (f : OriginRec → OriginRec) :
    (s.setOrg o f).pending = s.pending ∧
    (s.setOrg o f).now = s.now ∧
    (s.setOrg o f).resetLow = s.resetLow ∧
    (s.setOrg o f).selLow = s.selLow ∧
    (s.setOrg o f).ctl = s.ctl ∧
    (s.setOrg o f).members = s.members ∧
    (s.setOrg o f).dir.designated = s.dir.designated ∧
    (s.setOrg o f).dir.standins = s.dir.standins ∧
    (s.setOrg o f).dir.entries = s.dir.entries ∧
    (s.setOrg o f).dir.mark = s.dir.mark ∧
    (s.setOrg o f).repl = s.repl ∧
    (s.setOrg o f).line = s.line ∧
    (s.setOrg o f).engine = s.engine ∧
    (s.setOrg o f).array = s.array ∧
    (s.setOrg o f).retire = s.retire ∧
    (s.setOrg o f).port = s.port :=
  ⟨rfl, rfl, rfl, rfl, rfl, rfl, rfl, rfl, rfl, rfl, rfl, rfl, rfl, rfl, rfl, rfl⟩

@[simp] theorem State.setStandin_frame (s : State) (o : Station) (f : StandInRec → StandInRec) :
    (s.setStandin o f).pending = s.pending ∧
    (s.setStandin o f).now = s.now ∧
    (s.setStandin o f).resetLow = s.resetLow ∧
    (s.setStandin o f).selLow = s.selLow ∧
    (s.setStandin o f).ctl = s.ctl ∧
    (s.setStandin o f).members = s.members ∧
    (s.setStandin o f).dir.designated = s.dir.designated ∧
    (s.setStandin o f).dir.entries = s.dir.entries ∧
    (s.setStandin o f).dir.mark = s.dir.mark ∧
    (s.setStandin o f).dir.origins = s.dir.origins ∧
    (s.setStandin o f).repl = s.repl ∧
    (s.setStandin o f).line = s.line ∧
    (s.setStandin o f).engine = s.engine ∧
    (s.setStandin o f).array = s.array ∧
    (s.setStandin o f).retire = s.retire ∧
    (s.setStandin o f).port = s.port :=
  ⟨rfl, rfl, rfl, rfl, rfl, rfl, rfl, rfl, rfl, rfl, rfl, rfl, rfl, rfl, rfl, rfl⟩

@[simp] theorem State.setEntry_frame (s : State) (k : Key) (f : Entry → Entry) :
    (s.setEntry k f).pending = s.pending ∧
    (s.setEntry k f).now = s.now ∧
    (s.setEntry k f).resetLow = s.resetLow ∧
    (s.setEntry k f).selLow = s.selLow ∧
    (s.setEntry k f).ctl = s.ctl ∧
    (s.setEntry k f).members = s.members ∧
    (s.setEntry k f).dir.designated = s.dir.designated ∧
    (s.setEntry k f).dir.standins = s.dir.standins ∧
    (s.setEntry k f).dir.mark = s.dir.mark ∧
    (s.setEntry k f).dir.origins = s.dir.origins ∧
    (s.setEntry k f).repl = s.repl ∧
    (s.setEntry k f).line = s.line ∧
    (s.setEntry k f).engine = s.engine ∧
    (s.setEntry k f).array = s.array ∧
    (s.setEntry k f).retire = s.retire ∧
    (s.setEntry k f).port = s.port :=
  ⟨rfl, rfl, rfl, rfl, rfl, rfl, rfl, rfl, rfl, rfl, rfl, rfl, rfl, rfl, rfl, rfl⟩

@[simp] theorem State.addLive_frame (s : State) (b : Block) :
    (s.addLive b).pending = s.pending ∧
    (s.addLive b).now = s.now ∧
    (s.addLive b).resetLow = s.resetLow ∧
    (s.addLive b).selLow = s.selLow ∧
    (s.addLive b).ctl = s.ctl ∧
    (s.addLive b).members = s.members ∧
    (s.addLive b).dir = s.dir ∧
    (s.addLive b).repl = s.repl ∧
    (s.addLive b).line = s.line ∧
    (s.addLive b).engine = s.engine ∧
    (s.addLive b).array.flash = s.array.flash ∧
    (s.addLive b).array.freeList = s.array.freeList ∧
    (s.addLive b).array.badTable = s.array.badTable ∧
    (s.addLive b).array.nextStamp = s.array.nextStamp ∧
    (s.addLive b).array.running = s.array.running ∧
    (s.addLive b).array.failure = s.array.failure ∧
    (s.addLive b).array.reclaim = s.array.reclaim ∧
    (s.addLive b).array.full = s.array.full ∧
    (s.addLive b).array.exhausted = s.array.exhausted ∧
    (s.addLive b).array.scan = s.array.scan ∧
    (s.addLive b).array.erasesLost = s.array.erasesLost ∧
    (s.addLive b).retire = s.retire ∧
    (s.addLive b).port = s.port :=
  ⟨rfl, rfl, rfl, rfl, rfl, rfl, rfl, rfl, rfl, rfl, rfl, rfl, rfl, rfl, rfl, rfl, rfl, rfl, rfl, rfl, rfl, rfl, rfl⟩

@[simp] theorem State.subLive_frame (s : State) (b : Block) :
    (s.subLive b).pending = s.pending ∧
    (s.subLive b).now = s.now ∧
    (s.subLive b).resetLow = s.resetLow ∧
    (s.subLive b).selLow = s.selLow ∧
    (s.subLive b).ctl = s.ctl ∧
    (s.subLive b).members = s.members ∧
    (s.subLive b).dir = s.dir ∧
    (s.subLive b).repl = s.repl ∧
    (s.subLive b).line = s.line ∧
    (s.subLive b).engine = s.engine ∧
    (s.subLive b).array.flash = s.array.flash ∧
    (s.subLive b).array.freeList = s.array.freeList ∧
    (s.subLive b).array.badTable = s.array.badTable ∧
    (s.subLive b).array.nextStamp = s.array.nextStamp ∧
    (s.subLive b).array.running = s.array.running ∧
    (s.subLive b).array.failure = s.array.failure ∧
    (s.subLive b).array.reclaim = s.array.reclaim ∧
    (s.subLive b).array.full = s.array.full ∧
    (s.subLive b).array.exhausted = s.array.exhausted ∧
    (s.subLive b).array.scan = s.array.scan ∧
    (s.subLive b).array.erasesLost = s.array.erasesLost ∧
    (s.subLive b).retire = s.retire ∧
    (s.subLive b).port = s.port :=
  ⟨rfl, rfl, rfl, rfl, rfl, rfl, rfl, rfl, rfl, rfl, rfl, rfl, rfl, rfl, rfl, rfl, rfl, rfl, rfl, rfl, rfl, rfl, rfl⟩

@[simp] theorem State.moveMark_frame (s : State) (l : Loc) (stamp : Nat) :
    (s.moveMark l stamp).pending = s.pending ∧
    (s.moveMark l stamp).now = s.now ∧
    (s.moveMark l stamp).resetLow = s.resetLow ∧
    (s.moveMark l stamp).selLow = s.selLow ∧
    (s.moveMark l stamp).ctl = s.ctl ∧
    (s.moveMark l stamp).members = s.members ∧
    (s.moveMark l stamp).dir.designated = s.dir.designated ∧
    (s.moveMark l stamp).dir.standins = s.dir.standins ∧
    (s.moveMark l stamp).dir.entries = s.dir.entries ∧
    (s.moveMark l stamp).dir.origins = s.dir.origins ∧
    (s.moveMark l stamp).repl = s.repl ∧
    (s.moveMark l stamp).line = s.line ∧
    (s.moveMark l stamp).engine = s.engine ∧
    (s.moveMark l stamp).array.flash = s.array.flash ∧
    (s.moveMark l stamp).array.freeList = s.array.freeList ∧
    (s.moveMark l stamp).array.badTable = s.array.badTable ∧
    (s.moveMark l stamp).array.nextStamp = s.array.nextStamp ∧
    (s.moveMark l stamp).array.running = s.array.running ∧
    (s.moveMark l stamp).array.failure = s.array.failure ∧
    (s.moveMark l stamp).array.reclaim = s.array.reclaim ∧
    (s.moveMark l stamp).array.full = s.array.full ∧
    (s.moveMark l stamp).array.exhausted = s.array.exhausted ∧
    (s.moveMark l stamp).array.scan = s.array.scan ∧
    (s.moveMark l stamp).array.erasesLost = s.array.erasesLost ∧
    (s.moveMark l stamp).retire = s.retire ∧
    (s.moveMark l stamp).port = s.port :=
  by unfold State.moveMark; (repeat' split) <;> simp

@[simp] theorem State.moveEntry_frame (s : State) (k : Key) (old new : Loc) (stamp : Nat) :
    (s.moveEntry k old new stamp).pending = s.pending ∧
    (s.moveEntry k old new stamp).now = s.now ∧
    (s.moveEntry k old new stamp).resetLow = s.resetLow ∧
    (s.moveEntry k old new stamp).selLow = s.selLow ∧
    (s.moveEntry k old new stamp).ctl = s.ctl ∧
    (s.moveEntry k old new stamp).members = s.members ∧
    (s.moveEntry k old new stamp).dir.designated = s.dir.designated ∧
    (s.moveEntry k old new stamp).dir.standins = s.dir.standins ∧
    (s.moveEntry k old new stamp).dir.mark = s.dir.mark ∧
    (s.moveEntry k old new stamp).dir.origins = s.dir.origins ∧
    (s.moveEntry k old new stamp).repl = s.repl ∧
    (s.moveEntry k old new stamp).line = s.line ∧
    (s.moveEntry k old new stamp).engine = s.engine ∧
    (s.moveEntry k old new stamp).array.flash = s.array.flash ∧
    (s.moveEntry k old new stamp).array.freeList = s.array.freeList ∧
    (s.moveEntry k old new stamp).array.badTable = s.array.badTable ∧
    (s.moveEntry k old new stamp).array.nextStamp = s.array.nextStamp ∧
    (s.moveEntry k old new stamp).array.running = s.array.running ∧
    (s.moveEntry k old new stamp).array.failure = s.array.failure ∧
    (s.moveEntry k old new stamp).array.reclaim = s.array.reclaim ∧
    (s.moveEntry k old new stamp).array.full = s.array.full ∧
    (s.moveEntry k old new stamp).array.exhausted = s.array.exhausted ∧
    (s.moveEntry k old new stamp).array.scan = s.array.scan ∧
    (s.moveEntry k old new stamp).array.erasesLost = s.array.erasesLost ∧
    (s.moveEntry k old new stamp).retire = s.retire ∧
    (s.moveEntry k old new stamp).port = s.port :=
  ⟨rfl, rfl, rfl, rfl, rfl, rfl, rfl, rfl, rfl, rfl, rfl, rfl, rfl, rfl, rfl, rfl, rfl, rfl, rfl, rfl, rfl, rfl, rfl, rfl, rfl, rfl⟩

@[simp] theorem State.setPeer_frame (s : State) (p : Station) (f : PeerEntry → PeerEntry) :
    (s.setPeer p f).pending = s.pending ∧
    (s.setPeer p f).now = s.now ∧
    (s.setPeer p f).resetLow = s.resetLow ∧
    (s.setPeer p f).selLow = s.selLow ∧
    (s.setPeer p f).ctl = s.ctl ∧
    (s.setPeer p f).members.beaconTimer = s.members.beaconTimer ∧
    (s.setPeer p f).dir = s.dir ∧
    (s.setPeer p f).repl = s.repl ∧
    (s.setPeer p f).line = s.line ∧
    (s.setPeer p f).engine = s.engine ∧
    (s.setPeer p f).array = s.array ∧
    (s.setPeer p f).retire = s.retire ∧
    (s.setPeer p f).port = s.port :=
  ⟨rfl, rfl, rfl, rfl, rfl, rfl, rfl, rfl, rfl, rfl, rfl, rfl, rfl⟩

@[simp] theorem State.count_frame (s : State) (c : Counter) :
    (s.count c).pending = s.pending ∧
    (s.count c).now = s.now ∧
    (s.count c).resetLow = s.resetLow ∧
    (s.count c).selLow = s.selLow ∧
    (s.count c).ctl = s.ctl ∧
    (s.count c).members = s.members ∧
    (s.count c).dir = s.dir ∧
    (s.count c).repl = s.repl ∧
    (s.count c).engine = s.engine ∧
    (s.count c).array = s.array ∧
    (s.count c).retire = s.retire ∧
    (s.count c).port = s.port :=
  ⟨rfl, rfl, rfl, rfl, rfl, rfl, rfl, rfl, rfl, rfl, rfl, rfl⟩

@[simp] theorem State.place_frame (s : State) (e : TxEntry) :
    (s.place e).pending = s.pending ∧
    (s.place e).now = s.now ∧
    (s.place e).resetLow = s.resetLow ∧
    (s.place e).selLow = s.selLow ∧
    (s.place e).ctl = s.ctl ∧
    (s.place e).members = s.members ∧
    (s.place e).dir = s.dir ∧
    (s.place e).repl = s.repl ∧
    (s.place e).line = s.line ∧
    (s.place e).engine.sending = s.engine.sending ∧
    (s.place e).engine.staging = s.engine.staging ∧
    (s.place e).engine.assembly = s.engine.assembly ∧
    (s.place e).array = s.array ∧
    (s.place e).retire = s.retire ∧
    (s.place e).port = s.port :=
  ⟨rfl, rfl, rfl, rfl, rfl, rfl, rfl, rfl, rfl, rfl, rfl, rfl, rfl, rfl, rfl⟩

@[simp] theorem State.setTx_frame (s : State) (t : TxTarget) (f : TxEntry → TxEntry) :
    (s.setTx t f).pending = s.pending ∧
    (s.setTx t f).now = s.now ∧
    (s.setTx t f).resetLow = s.resetLow ∧
    (s.setTx t f).selLow = s.selLow ∧
    (s.setTx t f).ctl = s.ctl ∧
    (s.setTx t f).members = s.members ∧
    (s.setTx t f).dir = s.dir ∧
    (s.setTx t f).repl = s.repl ∧
    (s.setTx t f).line = s.line ∧
    (s.setTx t f).engine.sending = s.engine.sending ∧
    (s.setTx t f).engine.staging = s.engine.staging ∧
    (s.setTx t f).engine.assembly = s.engine.assembly ∧
    (s.setTx t f).array = s.array ∧
    (s.setTx t f).retire = s.retire ∧
    (s.setTx t f).port = s.port :=
  ⟨rfl, rfl, rfl, rfl, rfl, rfl, rfl, rfl, rfl, rfl, rfl, rfl, rfl, rfl, rfl⟩

@[simp] theorem State.unstage_frame (s : State) (k : Key) :
    (s.unstage k).pending = s.pending ∧
    (s.unstage k).now = s.now ∧
    (s.unstage k).resetLow = s.resetLow ∧
    (s.unstage k).selLow = s.selLow ∧
    (s.unstage k).ctl = s.ctl ∧
    (s.unstage k).members = s.members ∧
    (s.unstage k).dir = s.dir ∧
    (s.unstage k).repl = s.repl ∧
    (s.unstage k).line = s.line ∧
    (s.unstage k).engine.queue = s.engine.queue ∧
    (s.unstage k).engine.sending = s.engine.sending ∧
    (s.unstage k).engine.assembly = s.engine.assembly ∧
    (s.unstage k).array = s.array ∧
    (s.unstage k).retire = s.retire ∧
    (s.unstage k).port = s.port :=
  by unfold State.unstage; (repeat' split) <;> simp

@[simp] theorem State.giveUpStaging_frame (s : State) :
    (s.giveUpStaging).pending = s.pending ∧
    (s.giveUpStaging).now = s.now ∧
    (s.giveUpStaging).resetLow = s.resetLow ∧
    (s.giveUpStaging).selLow = s.selLow ∧
    (s.giveUpStaging).ctl = s.ctl ∧
    (s.giveUpStaging).members = s.members ∧
    (s.giveUpStaging).dir = s.dir ∧
    (s.giveUpStaging).repl = s.repl ∧
    (s.giveUpStaging).line = s.line ∧
    (s.giveUpStaging).array = s.array ∧
    (s.giveUpStaging).retire = s.retire ∧
    (s.giveUpStaging).port = s.port ∧
    (s.giveUpStaging).engine.queue = s.engine.queue ∧
    (s.giveUpStaging).engine.sending = s.engine.sending ∧
    (s.giveUpStaging).engine.assembly = s.engine.assembly :=
  by unfold State.giveUpStaging; split <;> simp

/-- What giving up the staging buffer leaves in it: a staging read that is running, its result to be dropped (R109). -/
theorem State.giveUpStaging_staging (s : State) :
    s.giveUpStaging.engine.staging =
      s.engine.staging.bind fun b => if b.phase = .reading then some { b with dropped := true } else none := by
  unfold State.giveUpStaging State.unstage
  cases h : s.engine.staging with
  | none => simp [h]
  | some b => cases hp : b.phase <;> simp [h, hp]

@[simp] theorem State.removeTx_frame (s : State) (t : TxTarget) :
    (s.removeTx t).pending = s.pending ∧
    (s.removeTx t).now = s.now ∧
    (s.removeTx t).resetLow = s.resetLow ∧
    (s.removeTx t).selLow = s.selLow ∧
    (s.removeTx t).ctl = s.ctl ∧
    (s.removeTx t).members = s.members ∧
    (s.removeTx t).dir = s.dir ∧
    (s.removeTx t).repl = s.repl ∧
    (s.removeTx t).line = s.line ∧
    (s.removeTx t).engine.sending = s.engine.sending ∧
    (s.removeTx t).engine.assembly = s.engine.assembly ∧
    (s.removeTx t).array = s.array ∧
    (s.removeTx t).retire = s.retire ∧
    (s.removeTx t).port = s.port :=
  by unfold State.removeTx; (repeat' split) <;> simp

@[simp] theorem State.cancelTx_frame (s : State) (t : TxTarget) :
    (s.cancelTx t).pending = s.pending ∧
    (s.cancelTx t).now = s.now ∧
    (s.cancelTx t).resetLow = s.resetLow ∧
    (s.cancelTx t).selLow = s.selLow ∧
    (s.cancelTx t).ctl = s.ctl ∧
    (s.cancelTx t).members = s.members ∧
    (s.cancelTx t).dir = s.dir ∧
    (s.cancelTx t).repl = s.repl ∧
    (s.cancelTx t).line = s.line ∧
    (s.cancelTx t).engine.sending = s.engine.sending ∧
    (s.cancelTx t).engine.assembly = s.engine.assembly ∧
    (s.cancelTx t).array = s.array ∧
    (s.cancelTx t).retire = s.retire ∧
    (s.cancelTx t).port = s.port :=
  by unfold State.cancelTx; (repeat' split) <;> simp

/-! ## What the setters set -/

@[simp] theorem State.reach_now (s : State) (t : Nat) : (s.reach t).now = max s.now t := rfl

@[simp] theorem State.setOrg_origins (s : State) (o : Station) (f : OriginRec → OriginRec) :
    (s.setOrg o f).dir.origins = upd s.dir.origins o f := rfl

@[simp] theorem State.setStandin_standins (s : State) (o : Station) (f : StandInRec → StandInRec) :
    (s.setStandin o f).dir.standins = upd s.dir.standins o f := rfl

@[simp] theorem State.setBlock_blocks (s : State) (b : Block) (f : BlockRec → BlockRec) :
    (s.setBlock b f).array.blocks = upd s.array.blocks b f := rfl

@[simp] theorem State.setPeer_peers (s : State) (p : Station) (f : PeerEntry → PeerEntry) :
    (s.setPeer p f).members.peers = upd s.members.peers p f := rfl

@[simp] theorem State.putSlot_flash (s : State) (l : Loc) (c : FlashCell) :
    (s.putSlot l c).array.flash = { s.array.flash with slots := s.array.flash.slots.put l.number c } := rfl

@[simp] theorem State.putTag_flash (s : State) (b : Block) (c : FlashCell) :
    (s.putTag b c).array.flash = { s.array.flash with tags := s.array.flash.tags.put b.val c } := rfl

@[simp] theorem State.place_queue (s : State) (e : TxEntry) :
    (s.place e).engine.queue = insertTx e s.engine.queue := rfl

@[simp] theorem State.count_line (s : State) (c : Counter) :
    (s.count c).line = { s.line with counters := s.line.counters.count c } := rfl

end Sys2Proof.Machine
end

