-- ==== Sys2Proof/Laws/Replicate.lean ====
section
/-! SUPPORT. What each operation of Machine/Placement.lean and Machine/Replicate.lean keeps. -/

namespace Sys2Proof.Machine

set_option linter.unusedSimpArgs false

@[simp] theorem State.designate_frame (s : State) :
    s.designate.ctl.state = s.ctl.state ∧
    s.designate.ctl.stopping = s.ctl.stopping ∧
    s.designate.ctl.config = s.ctl.config ∧
    s.designate.ctl.since = s.ctl.since ∧
    s.designate.members.peers = s.members.peers ∧
    s.designate.members.beaconTimer = s.members.beaconTimer ∧
    s.designate.repl.publish = s.repl.publish ∧
    s.designate.repl.landing = s.repl.landing ∧
    s.designate.repl.wants = s.repl.wants ∧
    s.designate.repl.fetch = s.repl.fetch ∧
    s.designate.engine.queue = s.engine.queue ∧
    s.designate.engine.sending = s.engine.sending ∧
    s.designate.engine.staging = s.engine.staging ∧
    s.designate.engine.assembly = s.engine.assembly ∧
    s.designate.array.flash = s.array.flash ∧
    s.designate.array.blocks = s.array.blocks ∧
    s.designate.array.freeList = s.array.freeList ∧
    s.designate.array.badTable = s.array.badTable ∧
    s.designate.array.nextStamp = s.array.nextStamp ∧
    s.designate.array.running = s.array.running ∧
    s.designate.array.failure = s.array.failure ∧
    s.designate.array.reclaim = s.array.reclaim ∧
    s.designate.array.full = s.array.full ∧
    s.designate.array.exhausted = s.array.exhausted ∧
    s.designate.array.scan = s.array.scan ∧
    s.designate.array.erasesLost = s.array.erasesLost ∧
    s.designate.port.selected = s.port.selected ∧
    s.designate.port.decoder = s.port.decoder ∧
    s.designate.port.taken = s.port.taken ∧
    s.designate.port.response = s.port.response ∧
    s.designate.port.read = s.port.read ∧
    s.designate.port.readKey = s.port.readKey ∧
    s.designate.port.readRequested = s.port.readRequested ∧
    s.designate.port.readBuffer = s.port.readBuffer ∧
    s.designate.port.notices = s.port.notices ∧
    s.designate.port.overflow = s.port.overflow ∧
    s.designate.port.dropped = s.port.dropped ∧
    s.designate.port.attn = s.port.attn :=
  by
    unfold State.designate
    generalize stations = l
    induction l generalizing s with
    | nil => simp
    | cons o l ih => exact ih _

@[simp] theorem State.fill_frame (s : State) (o : Station) :
    (s.fill o).pending = s.pending ∧
    (s.fill o).now = s.now ∧
    (s.fill o).resetLow = s.resetLow ∧
    (s.fill o).selLow = s.selLow ∧
    (s.fill o).ctl = s.ctl ∧
    (s.fill o).members = s.members ∧
    (s.fill o).dir = s.dir ∧
    (s.fill o).repl.publish = s.repl.publish ∧
    (s.fill o).repl.landing = s.repl.landing ∧
    (s.fill o).repl.fetch = s.repl.fetch ∧
    (s.fill o).line = s.line ∧
    (s.fill o).engine = s.engine ∧
    (s.fill o).array = s.array ∧
    (s.fill o).retire = s.retire ∧
    (s.fill o).port = s.port :=
  by unfold State.fill; (repeat' split) <;> simp

@[simp] theorem State.fillAll_frame (s : State) :
    s.fillAll.pending = s.pending ∧
    s.fillAll.now = s.now ∧
    s.fillAll.resetLow = s.resetLow ∧
    s.fillAll.selLow = s.selLow ∧
    s.fillAll.ctl = s.ctl ∧
    s.fillAll.members = s.members ∧
    s.fillAll.dir = s.dir ∧
    s.fillAll.repl.publish = s.repl.publish ∧
    s.fillAll.repl.landing = s.repl.landing ∧
    s.fillAll.repl.fetch = s.repl.fetch ∧
    s.fillAll.line = s.line ∧
    s.fillAll.engine = s.engine ∧
    s.fillAll.array = s.array ∧
    s.fillAll.retire = s.retire ∧
    s.fillAll.port = s.port :=
  by
    unfold State.fillAll
    generalize stations = l
    induction l generalizing s with
    | nil => simp
    | cons o l ih => simpa using ih (s.fill o)

@[simp] theorem State.liftPublished_frame (s : State) :
    s.liftPublished.pending = s.pending ∧
    s.liftPublished.now = s.now ∧
    s.liftPublished.resetLow = s.resetLow ∧
    s.liftPublished.selLow = s.selLow ∧
    s.liftPublished.ctl = s.ctl ∧
    s.liftPublished.members = s.members ∧
    s.liftPublished.dir.designated = s.dir.designated ∧
    s.liftPublished.dir.standins = s.dir.standins ∧
    s.liftPublished.dir.entries = s.dir.entries ∧
    s.liftPublished.dir.mark = s.dir.mark ∧
    s.liftPublished.repl = s.repl ∧
    s.liftPublished.line = s.line ∧
    s.liftPublished.engine = s.engine ∧
    s.liftPublished.array = s.array ∧
    s.liftPublished.retire = s.retire ∧
    s.liftPublished.port = s.port :=
  by unfold State.liftPublished; (repeat' split) <;> simp

@[simp] theorem State.tellKnown_frame (s : State) (o : Station) (v : Nat) :
    (s.tellKnown o v).pending = s.pending ∧
    (s.tellKnown o v).now = s.now ∧
    (s.tellKnown o v).resetLow = s.resetLow ∧
    (s.tellKnown o v).selLow = s.selLow ∧
    (s.tellKnown o v).ctl = s.ctl ∧
    (s.tellKnown o v).members = s.members ∧
    (s.tellKnown o v).dir.designated = s.dir.designated ∧
    (s.tellKnown o v).dir.standins = s.dir.standins ∧
    (s.tellKnown o v).dir.entries = s.dir.entries ∧
    (s.tellKnown o v).dir.mark = s.dir.mark ∧
    (s.tellKnown o v).repl.publish = s.repl.publish ∧
    (s.tellKnown o v).repl.landing = s.repl.landing ∧
    (s.tellKnown o v).repl.fetch = s.repl.fetch ∧
    (s.tellKnown o v).line = s.line ∧
    (s.tellKnown o v).engine = s.engine ∧
    (s.tellKnown o v).array = s.array ∧
    (s.tellKnown o v).retire = s.retire ∧
    (s.tellKnown o v).port = s.port :=
  by unfold State.tellKnown; simp; (repeat' split) <;> simp

@[simp] theorem State.setPublished_frame (s : State) (v : Nat) :
    (s.setPublished v).pending = s.pending ∧
    (s.setPublished v).now = s.now ∧
    (s.setPublished v).resetLow = s.resetLow ∧
    (s.setPublished v).selLow = s.selLow ∧
    (s.setPublished v).ctl = s.ctl ∧
    (s.setPublished v).members = s.members ∧
    (s.setPublished v).dir.designated = s.dir.designated ∧
    (s.setPublished v).dir.standins = s.dir.standins ∧
    (s.setPublished v).dir.entries = s.dir.entries ∧
    (s.setPublished v).dir.mark = s.dir.mark ∧
    (s.setPublished v).repl.publish = s.repl.publish ∧
    (s.setPublished v).repl.landing = s.repl.landing ∧
    (s.setPublished v).repl.fetch = s.repl.fetch ∧
    (s.setPublished v).line = s.line ∧
    (s.setPublished v).engine = s.engine ∧
    (s.setPublished v).array = s.array ∧
    (s.setPublished v).retire = s.retire ∧
    (s.setPublished v).port = s.port :=
  by unfold State.setPublished; (repeat' split) <;> simp

@[simp] theorem State.setHeld_frame (s : State) (o : Station) (h : Nat) :
    (s.setHeld o h).pending = s.pending ∧
    (s.setHeld o h).now = s.now ∧
    (s.setHeld o h).resetLow = s.resetLow ∧
    (s.setHeld o h).selLow = s.selLow ∧
    (s.setHeld o h).ctl = s.ctl ∧
    (s.setHeld o h).members = s.members ∧
    (s.setHeld o h).dir.designated = s.dir.designated ∧
    (s.setHeld o h).dir.standins = s.dir.standins ∧
    (s.setHeld o h).dir.entries = s.dir.entries ∧
    (s.setHeld o h).dir.mark = s.dir.mark ∧
    (s.setHeld o h).repl.publish = s.repl.publish ∧
    (s.setHeld o h).repl.landing = s.repl.landing ∧
    (s.setHeld o h).repl.fetch = s.repl.fetch ∧
    (s.setHeld o h).line = s.line ∧
    (s.setHeld o h).engine = s.engine ∧
    (s.setHeld o h).array = s.array ∧
    (s.setHeld o h).retire = s.retire ∧
    (s.setHeld o h).port = s.port :=
  by unfold State.setHeld; (repeat' split) <;> simp

@[simp] theorem State.advanceHeld_frame (s : State) (o : Station) :
    (s.advanceHeld o).pending = s.pending ∧
    (s.advanceHeld o).now = s.now ∧
    (s.advanceHeld o).resetLow = s.resetLow ∧
    (s.advanceHeld o).selLow = s.selLow ∧
    (s.advanceHeld o).ctl = s.ctl ∧
    (s.advanceHeld o).members = s.members ∧
    (s.advanceHeld o).dir.designated = s.dir.designated ∧
    (s.advanceHeld o).dir.standins = s.dir.standins ∧
    (s.advanceHeld o).dir.entries = s.dir.entries ∧
    (s.advanceHeld o).dir.mark = s.dir.mark ∧
    (s.advanceHeld o).repl.publish = s.repl.publish ∧
    (s.advanceHeld o).repl.landing = s.repl.landing ∧
    (s.advanceHeld o).repl.fetch = s.repl.fetch ∧
    (s.advanceHeld o).line = s.line ∧
    (s.advanceHeld o).engine = s.engine ∧
    (s.advanceHeld o).array = s.array ∧
    (s.advanceHeld o).retire = s.retire ∧
    (s.advanceHeld o).port = s.port :=
  by unfold State.advanceHeld; (repeat' split) <;> simp

@[simp] theorem State.lowerHeld_frame (s : State) (k : Key) :
    (s.lowerHeld k).pending = s.pending ∧
    (s.lowerHeld k).now = s.now ∧
    (s.lowerHeld k).resetLow = s.resetLow ∧
    (s.lowerHeld k).selLow = s.selLow ∧
    (s.lowerHeld k).ctl = s.ctl ∧
    (s.lowerHeld k).members = s.members ∧
    (s.lowerHeld k).dir.designated = s.dir.designated ∧
    (s.lowerHeld k).dir.standins = s.dir.standins ∧
    (s.lowerHeld k).dir.entries = s.dir.entries ∧
    (s.lowerHeld k).dir.mark = s.dir.mark ∧
    (s.lowerHeld k).repl.publish = s.repl.publish ∧
    (s.lowerHeld k).repl.landing = s.repl.landing ∧
    (s.lowerHeld k).repl.fetch = s.repl.fetch ∧
    (s.lowerHeld k).line = s.line ∧
    (s.lowerHeld k).engine = s.engine ∧
    (s.lowerHeld k).array = s.array ∧
    (s.lowerHeld k).retire = s.retire ∧
    (s.lowerHeld k).port = s.port :=
  by unfold State.lowerHeld; (repeat' split) <;> simp

@[simp] theorem State.completeRead_frame (s : State) (k : Key) (status : ReadStatus) (payload : List Byte) :
    (s.completeRead k status payload).pending = s.pending ∧
    (s.completeRead k status payload).now = s.now ∧
    (s.completeRead k status payload).resetLow = s.resetLow ∧
    (s.completeRead k status payload).selLow = s.selLow ∧
    (s.completeRead k status payload).ctl = s.ctl ∧
    (s.completeRead k status payload).members = s.members ∧
    (s.completeRead k status payload).dir = s.dir ∧
    (s.completeRead k status payload).repl = s.repl ∧
    (s.completeRead k status payload).line = s.line ∧
    (s.completeRead k status payload).engine = s.engine ∧
    (s.completeRead k status payload).array = s.array ∧
    (s.completeRead k status payload).retire = s.retire ∧
    (s.completeRead k status payload).port.selected = s.port.selected ∧
    (s.completeRead k status payload).port.decoder = s.port.decoder ∧
    (s.completeRead k status payload).port.taken = s.port.taken ∧
    (s.completeRead k status payload).port.response = s.port.response ∧
    (s.completeRead k status payload).port.readKey = s.port.readKey :=
  by unfold State.completeRead; (repeat' split) <;> simp

@[simp] theorem State.endFetch_frame (s : State) (status : ReadStatus) (payload : List Byte) :
    (s.endFetch status payload).pending = s.pending ∧
    (s.endFetch status payload).now = s.now ∧
    (s.endFetch status payload).resetLow = s.resetLow ∧
    (s.endFetch status payload).selLow = s.selLow ∧
    (s.endFetch status payload).ctl = s.ctl ∧
    (s.endFetch status payload).members = s.members ∧
    (s.endFetch status payload).dir = s.dir ∧
    (s.endFetch status payload).repl.publish = s.repl.publish ∧
    (s.endFetch status payload).repl.landing = s.repl.landing ∧
    (s.endFetch status payload).repl.wants = s.repl.wants ∧
    (s.endFetch status payload).line = s.line ∧
    (s.endFetch status payload).engine = s.engine ∧
    (s.endFetch status payload).array = s.array ∧
    (s.endFetch status payload).retire = s.retire ∧
    (s.endFetch status payload).port.selected = s.port.selected ∧
    (s.endFetch status payload).port.decoder = s.port.decoder ∧
    (s.endFetch status payload).port.taken = s.port.taken ∧
    (s.endFetch status payload).port.response = s.port.response ∧
    (s.endFetch status payload).port.readKey = s.port.readKey :=
  by unfold State.endFetch; (repeat' split) <;> simp

@[simp] theorem State.askFetch_frame (s : State) (f : Fetch) :
    (s.askFetch f).pending = s.pending ∧
    (s.askFetch f).now = s.now ∧
    (s.askFetch f).resetLow = s.resetLow ∧
    (s.askFetch f).selLow = s.selLow ∧
    (s.askFetch f).ctl = s.ctl ∧
    (s.askFetch f).members = s.members ∧
    (s.askFetch f).dir = s.dir ∧
    (s.askFetch f).repl.publish = s.repl.publish ∧
    (s.askFetch f).repl.landing = s.repl.landing ∧
    (s.askFetch f).repl.wants = s.repl.wants ∧
    (s.askFetch f).line = s.line ∧
    (s.askFetch f).engine.sending = s.engine.sending ∧
    (s.askFetch f).engine.staging = s.engine.staging ∧
    (s.askFetch f).engine.assembly = s.engine.assembly ∧
    (s.askFetch f).array = s.array ∧
    (s.askFetch f).retire = s.retire ∧
    (s.askFetch f).port = s.port :=
  by unfold State.askFetch; (repeat' split) <;> simp

@[simp] theorem State.beginFetch_frame (s : State) (k : Key) :
    (s.beginFetch k).pending = s.pending ∧
    (s.beginFetch k).now = s.now ∧
    (s.beginFetch k).resetLow = s.resetLow ∧
    (s.beginFetch k).selLow = s.selLow ∧
    (s.beginFetch k).ctl = s.ctl ∧
    (s.beginFetch k).members = s.members ∧
    (s.beginFetch k).dir = s.dir ∧
    (s.beginFetch k).repl.publish = s.repl.publish ∧
    (s.beginFetch k).repl.landing = s.repl.landing ∧
    (s.beginFetch k).repl.wants = s.repl.wants ∧
    (s.beginFetch k).line = s.line ∧
    (s.beginFetch k).engine.sending = s.engine.sending ∧
    (s.beginFetch k).engine.staging = s.engine.staging ∧
    (s.beginFetch k).engine.assembly = s.engine.assembly ∧
    (s.beginFetch k).array = s.array ∧
    (s.beginFetch k).retire = s.retire ∧
    (s.beginFetch k).port.selected = s.port.selected ∧
    (s.beginFetch k).port.decoder = s.port.decoder ∧
    (s.beginFetch k).port.taken = s.port.taken ∧
    (s.beginFetch k).port.response = s.port.response ∧
    (s.beginFetch k).port.readKey = s.port.readKey :=
  by unfold State.beginFetch; (repeat' split) <;> simp

@[simp] theorem State.freeBuffer_frame (s : State) (i : Fin 4) :
    (s.freeBuffer i).pending = s.pending ∧
    (s.freeBuffer i).now = s.now ∧
    (s.freeBuffer i).resetLow = s.resetLow ∧
    (s.freeBuffer i).selLow = s.selLow ∧
    (s.freeBuffer i).ctl = s.ctl ∧
    (s.freeBuffer i).members = s.members ∧
    (s.freeBuffer i).dir = s.dir ∧
    (s.freeBuffer i).repl.publish = s.repl.publish ∧
    (s.freeBuffer i).repl.wants = s.repl.wants ∧
    (s.freeBuffer i).repl.fetch = s.repl.fetch ∧
    (s.freeBuffer i).line = s.line ∧
    (s.freeBuffer i).engine = s.engine ∧
    (s.freeBuffer i).array = s.array ∧
    (s.freeBuffer i).retire = s.retire ∧
    (s.freeBuffer i).port = s.port :=
  ⟨rfl, rfl, rfl, rfl, rfl, rfl, rfl, rfl, rfl, rfl, rfl, rfl, rfl, rfl, rfl⟩

@[simp] theorem State.dropLanding_frame (s : State) (i : Fin 4) :
    (s.dropLanding i).pending = s.pending ∧
    (s.dropLanding i).now = s.now ∧
    (s.dropLanding i).resetLow = s.resetLow ∧
    (s.dropLanding i).selLow = s.selLow ∧
    (s.dropLanding i).ctl = s.ctl ∧
    (s.dropLanding i).members = s.members ∧
    (s.dropLanding i).dir = s.dir ∧
    (s.dropLanding i).repl.publish = s.repl.publish ∧
    (s.dropLanding i).repl.wants = s.repl.wants ∧
    (s.dropLanding i).repl.fetch = s.repl.fetch ∧
    (s.dropLanding i).line = s.line ∧
    (s.dropLanding i).engine = s.engine ∧
    (s.dropLanding i).array = s.array ∧
    (s.dropLanding i).retire = s.retire ∧
    (s.dropLanding i).port = s.port :=
  by unfold State.dropLanding; simp; (repeat' split) <;> simp

@[simp] theorem State.endHostRead_frame (s : State) (k : Key) :
    (s.endHostRead k).pending = s.pending ∧
    (s.endHostRead k).now = s.now ∧
    (s.endHostRead k).resetLow = s.resetLow ∧
    (s.endHostRead k).selLow = s.selLow ∧
    (s.endHostRead k).ctl = s.ctl ∧
    (s.endHostRead k).members = s.members ∧
    (s.endHostRead k).dir = s.dir ∧
    (s.endHostRead k).repl.publish = s.repl.publish ∧
    (s.endHostRead k).repl.landing = s.repl.landing ∧
    (s.endHostRead k).repl.wants = s.repl.wants ∧
    (s.endHostRead k).line = s.line ∧
    (s.endHostRead k).engine.sending = s.engine.sending ∧
    (s.endHostRead k).engine.staging = s.engine.staging ∧
    (s.endHostRead k).engine.assembly = s.engine.assembly ∧
    (s.endHostRead k).array = s.array ∧
    (s.endHostRead k).retire = s.retire ∧
    (s.endHostRead k).port.selected = s.port.selected ∧
    (s.endHostRead k).port.decoder = s.port.decoder ∧
    (s.endHostRead k).port.taken = s.port.taken ∧
    (s.endHostRead k).port.response = s.port.response ∧
    (s.endHostRead k).port.readKey = s.port.readKey :=
  by unfold State.endHostRead; simp; (repeat' split) <;> simp

@[simp] theorem State.undoPlace_frame (s : State) (p : Place) :
    (s.undoPlace p).pending = s.pending ∧
    (s.undoPlace p).now = s.now ∧
    (s.undoPlace p).resetLow = s.resetLow ∧
    (s.undoPlace p).selLow = s.selLow ∧
    (s.undoPlace p).ctl = s.ctl ∧
    (s.undoPlace p).members = s.members ∧
    (s.undoPlace p).dir = s.dir ∧
    (s.undoPlace p).repl.wants = s.repl.wants ∧
    (s.undoPlace p).repl.fetch = s.repl.fetch ∧
    (s.undoPlace p).line = s.line ∧
    (s.undoPlace p).engine = s.engine ∧
    (s.undoPlace p).array.flash = s.array.flash ∧
    (s.undoPlace p).array.freeList = s.array.freeList ∧
    (s.undoPlace p).array.badTable = s.array.badTable ∧
    (s.undoPlace p).array.nextStamp = s.array.nextStamp ∧
    (s.undoPlace p).array.running = s.array.running ∧
    (s.undoPlace p).array.failure = s.array.failure ∧
    (s.undoPlace p).array.reclaim = s.array.reclaim ∧
    (s.undoPlace p).array.full = s.array.full ∧
    (s.undoPlace p).array.exhausted = s.array.exhausted ∧
    (s.undoPlace p).array.scan = s.array.scan ∧
    (s.undoPlace p).array.erasesLost = s.array.erasesLost ∧
    (s.undoPlace p).retire = s.retire ∧
    (s.undoPlace p).port = s.port :=
  by unfold State.undoPlace; (repeat' split) <;> simp

@[simp] theorem State.release_frame (s : State) (k : Key) :
    (s.release k).pending = s.pending ∧
    (s.release k).now = s.now ∧
    (s.release k).resetLow = s.resetLow ∧
    (s.release k).selLow = s.selLow ∧
    (s.release k).ctl = s.ctl ∧
    (s.release k).members = s.members ∧
    (s.release k).dir.designated = s.dir.designated ∧
    (s.release k).dir.standins = s.dir.standins ∧
    (s.release k).dir.mark = s.dir.mark ∧
    (s.release k).line = s.line ∧
    (s.release k).engine.sending = s.engine.sending ∧
    (s.release k).engine.assembly = s.engine.assembly ∧
    (s.release k).array.flash = s.array.flash ∧
    (s.release k).array.freeList = s.array.freeList ∧
    (s.release k).array.badTable = s.array.badTable ∧
    (s.release k).array.nextStamp = s.array.nextStamp ∧
    (s.release k).array.running = s.array.running ∧
    (s.release k).array.failure = s.array.failure ∧
    (s.release k).array.reclaim = s.array.reclaim ∧
    (s.release k).array.full = s.array.full ∧
    (s.release k).array.exhausted = s.array.exhausted ∧
    (s.release k).array.scan = s.array.scan ∧
    (s.release k).array.erasesLost = s.array.erasesLost ∧
    (s.release k).retire = s.retire ∧
    (s.release k).port.selected = s.port.selected ∧
    (s.release k).port.decoder = s.port.decoder ∧
    (s.release k).port.taken = s.port.taken ∧
    (s.release k).port.response = s.port.response ∧
    (s.release k).port.readKey = s.port.readKey :=
  by unfold State.release; (repeat' split) <;> simp

@[simp] theorem State.releaseAll_frame (s : State) (ks : List Key) :
    (s.releaseAll ks).pending = s.pending ∧
    (s.releaseAll ks).now = s.now ∧
    (s.releaseAll ks).resetLow = s.resetLow ∧
    (s.releaseAll ks).selLow = s.selLow ∧
    (s.releaseAll ks).ctl = s.ctl ∧
    (s.releaseAll ks).members = s.members ∧
    (s.releaseAll ks).dir.designated = s.dir.designated ∧
    (s.releaseAll ks).dir.standins = s.dir.standins ∧
    (s.releaseAll ks).dir.mark = s.dir.mark ∧
    (s.releaseAll ks).line = s.line ∧
    (s.releaseAll ks).engine.sending = s.engine.sending ∧
    (s.releaseAll ks).engine.assembly = s.engine.assembly ∧
    (s.releaseAll ks).array.flash = s.array.flash ∧
    (s.releaseAll ks).array.freeList = s.array.freeList ∧
    (s.releaseAll ks).array.badTable = s.array.badTable ∧
    (s.releaseAll ks).array.nextStamp = s.array.nextStamp ∧
    (s.releaseAll ks).array.running = s.array.running ∧
    (s.releaseAll ks).array.failure = s.array.failure ∧
    (s.releaseAll ks).array.reclaim = s.array.reclaim ∧
    (s.releaseAll ks).array.full = s.array.full ∧
    (s.releaseAll ks).array.exhausted = s.array.exhausted ∧
    (s.releaseAll ks).array.scan = s.array.scan ∧
    (s.releaseAll ks).array.erasesLost = s.array.erasesLost ∧
    (s.releaseAll ks).retire = s.retire ∧
    (s.releaseAll ks).port.selected = s.port.selected ∧
    (s.releaseAll ks).port.decoder = s.port.decoder ∧
    (s.releaseAll ks).port.taken = s.port.taken ∧
    (s.releaseAll ks).port.response = s.port.response ∧
    (s.releaseAll ks).port.readKey = s.port.readKey :=
  by
    unfold State.releaseAll
    induction ks generalizing s with
    | nil => simp
    | cons k ks ih => simpa using ih (s.release k)

@[simp] theorem State.insert_frame (s : State) (e : Entry) :
    (s.insert e).pending = s.pending ∧
    (s.insert e).now = s.now ∧
    (s.insert e).resetLow = s.resetLow ∧
    (s.insert e).selLow = s.selLow ∧
    (s.insert e).ctl = s.ctl ∧
    (s.insert e).members = s.members ∧
    (s.insert e).dir.designated = s.dir.designated ∧
    (s.insert e).dir.mark = s.dir.mark ∧
    (s.insert e).repl.publish = s.repl.publish ∧
    (s.insert e).repl.landing = s.repl.landing ∧
    (s.insert e).repl.fetch = s.repl.fetch ∧
    (s.insert e).line = s.line ∧
    (s.insert e).engine = s.engine ∧
    (s.insert e).array = s.array ∧
    (s.insert e).retire = s.retire ∧
    (s.insert e).port = s.port :=
  by unfold State.insert; simp; (repeat' split) <;> simp

@[simp] theorem State.settleWant_frame (s : State) (k : Key) :
    (s.settleWant k).pending = s.pending ∧
    (s.settleWant k).now = s.now ∧
    (s.settleWant k).resetLow = s.resetLow ∧
    (s.settleWant k).selLow = s.selLow ∧
    (s.settleWant k).ctl = s.ctl ∧
    (s.settleWant k).members = s.members ∧
    (s.settleWant k).dir = s.dir ∧
    (s.settleWant k).repl.publish = s.repl.publish ∧
    (s.settleWant k).repl.landing = s.repl.landing ∧
    (s.settleWant k).repl.fetch = s.repl.fetch ∧
    (s.settleWant k).line = s.line ∧
    (s.settleWant k).engine = s.engine ∧
    (s.settleWant k).array = s.array ∧
    (s.settleWant k).retire = s.retire ∧
    (s.settleWant k).port = s.port :=
  by unfold State.settleWant; (repeat' split) <;> simp

@[simp] theorem State.fetchInserted_frame (s : State) (k : Key) (payload : List Byte) :
    (s.fetchInserted k payload).pending = s.pending ∧
    (s.fetchInserted k payload).now = s.now ∧
    (s.fetchInserted k payload).resetLow = s.resetLow ∧
    (s.fetchInserted k payload).selLow = s.selLow ∧
    (s.fetchInserted k payload).ctl = s.ctl ∧
    (s.fetchInserted k payload).members = s.members ∧
    (s.fetchInserted k payload).dir = s.dir ∧
    (s.fetchInserted k payload).repl.publish = s.repl.publish ∧
    (s.fetchInserted k payload).repl.landing = s.repl.landing ∧
    (s.fetchInserted k payload).repl.wants = s.repl.wants ∧
    (s.fetchInserted k payload).line = s.line ∧
    (s.fetchInserted k payload).engine = s.engine ∧
    (s.fetchInserted k payload).array = s.array ∧
    (s.fetchInserted k payload).retire = s.retire ∧
    (s.fetchInserted k payload).port.selected = s.port.selected ∧
    (s.fetchInserted k payload).port.decoder = s.port.decoder ∧
    (s.fetchInserted k payload).port.taken = s.port.taken ∧
    (s.fetchInserted k payload).port.response = s.port.response ∧
    (s.fetchInserted k payload).port.readKey = s.port.readKey :=
  by unfold State.fetchInserted; (repeat' split) <;> simp

@[simp] theorem State.land_frame (s : State) (i : Fin 4) (k : Key) (payload : List Byte) :
    (s.land i k payload).pending = s.pending ∧
    (s.land i k payload).now = s.now ∧
    (s.land i k payload).resetLow = s.resetLow ∧
    (s.land i k payload).selLow = s.selLow ∧
    (s.land i k payload).ctl = s.ctl ∧
    (s.land i k payload).members = s.members ∧
    (s.land i k payload).dir.designated = s.dir.designated ∧
    (s.land i k payload).dir.mark = s.dir.mark ∧
    (s.land i k payload).repl.publish = s.repl.publish ∧
    (s.land i k payload).line = s.line ∧
    (s.land i k payload).engine = s.engine ∧
    (s.land i k payload).array = s.array ∧
    (s.land i k payload).retire = s.retire ∧
    (s.land i k payload).port.selected = s.port.selected ∧
    (s.land i k payload).port.decoder = s.port.decoder ∧
    (s.land i k payload).port.taken = s.port.taken ∧
    (s.land i k payload).port.response = s.port.response ∧
    (s.land i k payload).port.readKey = s.port.readKey :=
  by unfold State.land; (repeat' split) <;> simp

@[simp] theorem State.setPublish_frame (s : State) (f : Publish → Publish) :
    (s.setPublish f).pending = s.pending ∧
    (s.setPublish f).now = s.now ∧
    (s.setPublish f).resetLow = s.resetLow ∧
    (s.setPublish f).selLow = s.selLow ∧
    (s.setPublish f).ctl = s.ctl ∧
    (s.setPublish f).members = s.members ∧
    (s.setPublish f).dir = s.dir ∧
    (s.setPublish f).repl.landing = s.repl.landing ∧
    (s.setPublish f).repl.wants = s.repl.wants ∧
    (s.setPublish f).repl.fetch = s.repl.fetch ∧
    (s.setPublish f).line = s.line ∧
    (s.setPublish f).engine = s.engine ∧
    (s.setPublish f).array = s.array ∧
    (s.setPublish f).retire = s.retire ∧
    (s.setPublish f).port = s.port :=
  ⟨rfl, rfl, rfl, rfl, rfl, rfl, rfl, rfl, rfl, rfl, rfl, rfl, rfl, rfl, rfl⟩

@[simp] theorem State.finishPublish_frame (s : State) :
    s.finishPublish.pending = s.pending ∧
    s.finishPublish.now = s.now ∧
    s.finishPublish.resetLow = s.resetLow ∧
    s.finishPublish.selLow = s.selLow ∧
    s.finishPublish.ctl = s.ctl ∧
    s.finishPublish.members = s.members ∧
    s.finishPublish.dir = s.dir ∧
    s.finishPublish.repl.landing = s.repl.landing ∧
    s.finishPublish.repl.wants = s.repl.wants ∧
    s.finishPublish.repl.fetch = s.repl.fetch ∧
    s.finishPublish.line = s.line ∧
    s.finishPublish.engine = s.engine ∧
    s.finishPublish.array = s.array ∧
    s.finishPublish.retire = s.retire ∧
    s.finishPublish.port = s.port :=
  by unfold State.finishPublish; (repeat' split) <;> simp

@[simp] theorem State.publishDone_frame (s : State) (outcome : PublishOutcome) :
    (s.publishDone outcome).pending = s.pending ∧
    (s.publishDone outcome).now = s.now ∧
    (s.publishDone outcome).resetLow = s.resetLow ∧
    (s.publishDone outcome).selLow = s.selLow ∧
    (s.publishDone outcome).ctl = s.ctl ∧
    (s.publishDone outcome).members = s.members ∧
    (s.publishDone outcome).dir = s.dir ∧
    (s.publishDone outcome).repl.landing = s.repl.landing ∧
    (s.publishDone outcome).repl.wants = s.repl.wants ∧
    (s.publishDone outcome).repl.fetch = s.repl.fetch ∧
    (s.publishDone outcome).line = s.line ∧
    (s.publishDone outcome).engine = s.engine ∧
    (s.publishDone outcome).array = s.array ∧
    (s.publishDone outcome).retire = s.retire ∧
    (s.publishDone outcome).port.selected = s.port.selected ∧
    (s.publishDone outcome).port.decoder = s.port.decoder ∧
    (s.publishDone outcome).port.taken = s.port.taken ∧
    (s.publishDone outcome).port.response = s.port.response ∧
    (s.publishDone outcome).port.read = s.port.read ∧
    (s.publishDone outcome).port.readKey = s.port.readKey ∧
    (s.publishDone outcome).port.readRequested = s.port.readRequested ∧
    (s.publishDone outcome).port.readBuffer = s.port.readBuffer :=
  by unfold State.publishDone; (repeat' split) <;> simp

@[simp] theorem State.publishRetired_frame (s : State) :
    s.publishRetired.pending = s.pending ∧
    s.publishRetired.now = s.now ∧
    s.publishRetired.resetLow = s.resetLow ∧
    s.publishRetired.selLow = s.selLow ∧
    s.publishRetired.ctl = s.ctl ∧
    s.publishRetired.members = s.members ∧
    s.publishRetired.dir = s.dir ∧
    s.publishRetired.repl.landing = s.repl.landing ∧
    s.publishRetired.repl.wants = s.repl.wants ∧
    s.publishRetired.repl.fetch = s.repl.fetch ∧
    s.publishRetired.line = s.line ∧
    s.publishRetired.engine = s.engine ∧
    s.publishRetired.array = s.array ∧
    s.publishRetired.retire = s.retire ∧
    s.publishRetired.port.selected = s.port.selected ∧
    s.publishRetired.port.decoder = s.port.decoder ∧
    s.publishRetired.port.taken = s.port.taken ∧
    s.publishRetired.port.response = s.port.response ∧
    s.publishRetired.port.read = s.port.read ∧
    s.publishRetired.port.readKey = s.port.readKey ∧
    s.publishRetired.port.readRequested = s.port.readRequested ∧
    s.publishRetired.port.readBuffer = s.port.readBuffer :=
  by unfold State.publishRetired; simp; (repeat' split) <;> simp

@[simp] theorem State.publishLost_frame (s : State) (k : Key) :
    (s.publishLost k).pending = s.pending ∧
    (s.publishLost k).now = s.now ∧
    (s.publishLost k).resetLow = s.resetLow ∧
    (s.publishLost k).selLow = s.selLow ∧
    (s.publishLost k).ctl = s.ctl ∧
    (s.publishLost k).members = s.members ∧
    (s.publishLost k).dir = s.dir ∧
    (s.publishLost k).repl.landing = s.repl.landing ∧
    (s.publishLost k).repl.wants = s.repl.wants ∧
    (s.publishLost k).repl.fetch = s.repl.fetch ∧
    (s.publishLost k).line = s.line ∧
    (s.publishLost k).engine = s.engine ∧
    (s.publishLost k).array = s.array ∧
    (s.publishLost k).retire = s.retire ∧
    (s.publishLost k).port.selected = s.port.selected ∧
    (s.publishLost k).port.decoder = s.port.decoder ∧
    (s.publishLost k).port.taken = s.port.taken ∧
    (s.publishLost k).port.response = s.port.response ∧
    (s.publishLost k).port.read = s.port.read ∧
    (s.publishLost k).port.readKey = s.port.readKey ∧
    (s.publishLost k).port.readRequested = s.port.readRequested ∧
    (s.publishLost k).port.readBuffer = s.port.readBuffer :=
  by unfold State.publishLost; simp; (repeat' split) <;> simp

@[simp] theorem State.publishFailed_frame (s : State) :
    s.publishFailed.pending = s.pending ∧
    s.publishFailed.now = s.now ∧
    s.publishFailed.resetLow = s.resetLow ∧
    s.publishFailed.selLow = s.selLow ∧
    s.publishFailed.ctl = s.ctl ∧
    s.publishFailed.members = s.members ∧
    s.publishFailed.dir.designated = s.dir.designated ∧
    s.publishFailed.dir.standins = s.dir.standins ∧
    s.publishFailed.dir.mark = s.dir.mark ∧
    s.publishFailed.line = s.line ∧
    s.publishFailed.engine.sending = s.engine.sending ∧
    s.publishFailed.engine.assembly = s.engine.assembly ∧
    s.publishFailed.array.flash = s.array.flash ∧
    s.publishFailed.array.freeList = s.array.freeList ∧
    s.publishFailed.array.badTable = s.array.badTable ∧
    s.publishFailed.array.nextStamp = s.array.nextStamp ∧
    s.publishFailed.array.running = s.array.running ∧
    s.publishFailed.array.failure = s.array.failure ∧
    s.publishFailed.array.reclaim = s.array.reclaim ∧
    s.publishFailed.array.full = s.array.full ∧
    s.publishFailed.array.exhausted = s.array.exhausted ∧
    s.publishFailed.array.scan = s.array.scan ∧
    s.publishFailed.array.erasesLost = s.array.erasesLost ∧
    s.publishFailed.retire = s.retire ∧
    s.publishFailed.port.selected = s.port.selected ∧
    s.publishFailed.port.decoder = s.port.decoder ∧
    s.publishFailed.port.taken = s.port.taken ∧
    s.publishFailed.port.response = s.port.response ∧
    s.publishFailed.port.readKey = s.port.readKey :=
  by unfold State.publishFailed; (repeat' split) <;> simp

@[simp] theorem State.placePage_frame (s : State) (earliest : Nat) :
    (s.placePage earliest).pending = s.pending ∧
    (s.placePage earliest).now = s.now ∧
    (s.placePage earliest).resetLow = s.resetLow ∧
    (s.placePage earliest).selLow = s.selLow ∧
    (s.placePage earliest).ctl = s.ctl ∧
    (s.placePage earliest).members = s.members ∧
    (s.placePage earliest).dir = s.dir ∧
    (s.placePage earliest).repl = s.repl ∧
    (s.placePage earliest).line = s.line ∧
    (s.placePage earliest).engine.sending = s.engine.sending ∧
    (s.placePage earliest).engine.staging = s.engine.staging ∧
    (s.placePage earliest).engine.assembly = s.engine.assembly ∧
    (s.placePage earliest).array = s.array ∧
    (s.placePage earliest).retire = s.retire ∧
    (s.placePage earliest).port = s.port :=
  ⟨rfl, rfl, rfl, rfl, rfl, rfl, rfl, rfl, rfl, rfl, rfl, rfl, rfl, rfl, rfl⟩

@[simp] theorem State.publishProgrammed_frame (s : State) :
    s.publishProgrammed.pending = s.pending ∧
    s.publishProgrammed.now = s.now ∧
    s.publishProgrammed.resetLow = s.resetLow ∧
    s.publishProgrammed.selLow = s.selLow ∧
    s.publishProgrammed.ctl = s.ctl ∧
    s.publishProgrammed.members = s.members ∧
    s.publishProgrammed.dir = s.dir ∧
    s.publishProgrammed.repl.landing = s.repl.landing ∧
    s.publishProgrammed.repl.wants = s.repl.wants ∧
    s.publishProgrammed.repl.fetch = s.repl.fetch ∧
    s.publishProgrammed.line = s.line ∧
    s.publishProgrammed.engine.sending = s.engine.sending ∧
    s.publishProgrammed.engine.staging = s.engine.staging ∧
    s.publishProgrammed.engine.assembly = s.engine.assembly ∧
    s.publishProgrammed.array = s.array ∧
    s.publishProgrammed.retire = s.retire ∧
    s.publishProgrammed.port.selected = s.port.selected ∧
    s.publishProgrammed.port.decoder = s.port.decoder ∧
    s.publishProgrammed.port.taken = s.port.taken ∧
    s.publishProgrammed.port.response = s.port.response ∧
    s.publishProgrammed.port.read = s.port.read ∧
    s.publishProgrammed.port.readKey = s.port.readKey ∧
    s.publishProgrammed.port.readRequested = s.port.readRequested ∧
    s.publishProgrammed.port.readBuffer = s.port.readBuffer :=
  by unfold State.publishProgrammed; (repeat' split) <;> simp

@[simp] theorem State.publishWindow_frame (s : State) (acked : BitVec 8) :
    (s.publishWindow acked).pending = s.pending ∧
    (s.publishWindow acked).now = s.now ∧
    (s.publishWindow acked).resetLow = s.resetLow ∧
    (s.publishWindow acked).selLow = s.selLow ∧
    (s.publishWindow acked).ctl = s.ctl ∧
    (s.publishWindow acked).members = s.members ∧
    (s.publishWindow acked).dir = s.dir ∧
    (s.publishWindow acked).repl.landing = s.repl.landing ∧
    (s.publishWindow acked).repl.wants = s.repl.wants ∧
    (s.publishWindow acked).repl.fetch = s.repl.fetch ∧
    (s.publishWindow acked).line = s.line ∧
    (s.publishWindow acked).engine.sending = s.engine.sending ∧
    (s.publishWindow acked).engine.staging = s.engine.staging ∧
    (s.publishWindow acked).engine.assembly = s.engine.assembly ∧
    (s.publishWindow acked).array = s.array ∧
    (s.publishWindow acked).retire = s.retire ∧
    (s.publishWindow acked).port.selected = s.port.selected ∧
    (s.publishWindow acked).port.decoder = s.port.decoder ∧
    (s.publishWindow acked).port.taken = s.port.taken ∧
    (s.publishWindow acked).port.response = s.port.response ∧
    (s.publishWindow acked).port.read = s.port.read ∧
    (s.publishWindow acked).port.readKey = s.port.readKey ∧
    (s.publishWindow acked).port.readRequested = s.port.readRequested ∧
    (s.publishWindow acked).port.readBuffer = s.port.readBuffer :=
  by unfold State.publishWindow; simp; (repeat' split) <;> simp

@[simp] theorem State.pageLost_frame (s : State) (k : Key) (l : Loc) :
    (s.pageLost k l).pending = s.pending ∧
    (s.pageLost k l).now = s.now ∧
    (s.pageLost k l).resetLow = s.resetLow ∧
    (s.pageLost k l).selLow = s.selLow ∧
    (s.pageLost k l).ctl = s.ctl ∧
    (s.pageLost k l).members = s.members ∧
    (s.pageLost k l).dir.designated = s.dir.designated ∧
    (s.pageLost k l).dir.standins = s.dir.standins ∧
    (s.pageLost k l).dir.mark = s.dir.mark ∧
    (s.pageLost k l).line = s.line ∧
    (s.pageLost k l).engine.sending = s.engine.sending ∧
    (s.pageLost k l).engine.assembly = s.engine.assembly ∧
    (s.pageLost k l).array.flash = s.array.flash ∧
    (s.pageLost k l).array.freeList = s.array.freeList ∧
    (s.pageLost k l).array.badTable = s.array.badTable ∧
    (s.pageLost k l).array.nextStamp = s.array.nextStamp ∧
    (s.pageLost k l).array.running = s.array.running ∧
    (s.pageLost k l).array.failure = s.array.failure ∧
    (s.pageLost k l).array.reclaim = s.array.reclaim ∧
    (s.pageLost k l).array.full = s.array.full ∧
    (s.pageLost k l).array.exhausted = s.array.exhausted ∧
    (s.pageLost k l).array.scan = s.array.scan ∧
    (s.pageLost k l).array.erasesLost = s.array.erasesLost ∧
    (s.pageLost k l).retire = s.retire ∧
    (s.pageLost k l).port.selected = s.port.selected ∧
    (s.pageLost k l).port.decoder = s.port.decoder ∧
    (s.pageLost k l).port.taken = s.port.taken ∧
    (s.pageLost k l).port.response = s.port.response ∧
    (s.pageLost k l).port.readKey = s.port.readKey :=
  by unfold State.pageLost; (repeat' split) <;> simp

@[simp] theorem State.standInRelease_frame (s : State) (o : Station) :
    (s.standInRelease o).pending = s.pending ∧
    (s.standInRelease o).now = s.now ∧
    (s.standInRelease o).resetLow = s.resetLow ∧
    (s.standInRelease o).selLow = s.selLow ∧
    (s.standInRelease o).ctl = s.ctl ∧
    (s.standInRelease o).members = s.members ∧
    (s.standInRelease o).dir.designated = s.dir.designated ∧
    (s.standInRelease o).dir.mark = s.dir.mark ∧
    (s.standInRelease o).line = s.line ∧
    (s.standInRelease o).engine.sending = s.engine.sending ∧
    (s.standInRelease o).engine.assembly = s.engine.assembly ∧
    (s.standInRelease o).array.flash = s.array.flash ∧
    (s.standInRelease o).array.freeList = s.array.freeList ∧
    (s.standInRelease o).array.badTable = s.array.badTable ∧
    (s.standInRelease o).array.nextStamp = s.array.nextStamp ∧
    (s.standInRelease o).array.running = s.array.running ∧
    (s.standInRelease o).array.failure = s.array.failure ∧
    (s.standInRelease o).array.reclaim = s.array.reclaim ∧
    (s.standInRelease o).array.full = s.array.full ∧
    (s.standInRelease o).array.exhausted = s.array.exhausted ∧
    (s.standInRelease o).array.scan = s.array.scan ∧
    (s.standInRelease o).array.erasesLost = s.array.erasesLost ∧
    (s.standInRelease o).retire = s.retire ∧
    (s.standInRelease o).port.selected = s.port.selected ∧
    (s.standInRelease o).port.decoder = s.port.decoder ∧
    (s.standInRelease o).port.taken = s.port.taken ∧
    (s.standInRelease o).port.response = s.port.response ∧
    (s.standInRelease o).port.readKey = s.port.readKey :=
  by unfold State.standInRelease; (repeat' split) <;> simp

@[simp] theorem State.releaseCheck_frame (s : State) (o : Station) :
    (s.releaseCheck o).pending = s.pending ∧
    (s.releaseCheck o).now = s.now ∧
    (s.releaseCheck o).resetLow = s.resetLow ∧
    (s.releaseCheck o).selLow = s.selLow ∧
    (s.releaseCheck o).ctl = s.ctl ∧
    (s.releaseCheck o).members = s.members ∧
    (s.releaseCheck o).dir.designated = s.dir.designated ∧
    (s.releaseCheck o).dir.mark = s.dir.mark ∧
    (s.releaseCheck o).line = s.line ∧
    (s.releaseCheck o).engine.sending = s.engine.sending ∧
    (s.releaseCheck o).engine.assembly = s.engine.assembly ∧
    (s.releaseCheck o).array.flash = s.array.flash ∧
    (s.releaseCheck o).array.freeList = s.array.freeList ∧
    (s.releaseCheck o).array.badTable = s.array.badTable ∧
    (s.releaseCheck o).array.nextStamp = s.array.nextStamp ∧
    (s.releaseCheck o).array.running = s.array.running ∧
    (s.releaseCheck o).array.failure = s.array.failure ∧
    (s.releaseCheck o).array.reclaim = s.array.reclaim ∧
    (s.releaseCheck o).array.full = s.array.full ∧
    (s.releaseCheck o).array.exhausted = s.array.exhausted ∧
    (s.releaseCheck o).array.scan = s.array.scan ∧
    (s.releaseCheck o).array.erasesLost = s.array.erasesLost ∧
    (s.releaseCheck o).retire = s.retire ∧
    (s.releaseCheck o).port.selected = s.port.selected ∧
    (s.releaseCheck o).port.decoder = s.port.decoder ∧
    (s.releaseCheck o).port.taken = s.port.taken ∧
    (s.releaseCheck o).port.response = s.port.response ∧
    (s.releaseCheck o).port.readKey = s.port.readKey :=
  by unfold State.releaseCheck; simp; (repeat' split) <;> simp

@[simp] theorem State.stopStanding_frame (s : State) (o : Station) :
    (s.stopStanding o).pending = s.pending ∧
    (s.stopStanding o).now = s.now ∧
    (s.stopStanding o).resetLow = s.resetLow ∧
    (s.stopStanding o).selLow = s.selLow ∧
    (s.stopStanding o).ctl = s.ctl ∧
    (s.stopStanding o).members = s.members ∧
    (s.stopStanding o).dir.designated = s.dir.designated ∧
    (s.stopStanding o).dir.mark = s.dir.mark ∧
    (s.stopStanding o).line = s.line ∧
    (s.stopStanding o).engine.sending = s.engine.sending ∧
    (s.stopStanding o).engine.assembly = s.engine.assembly ∧
    (s.stopStanding o).array.flash = s.array.flash ∧
    (s.stopStanding o).array.freeList = s.array.freeList ∧
    (s.stopStanding o).array.badTable = s.array.badTable ∧
    (s.stopStanding o).array.nextStamp = s.array.nextStamp ∧
    (s.stopStanding o).array.running = s.array.running ∧
    (s.stopStanding o).array.failure = s.array.failure ∧
    (s.stopStanding o).array.reclaim = s.array.reclaim ∧
    (s.stopStanding o).array.full = s.array.full ∧
    (s.stopStanding o).array.exhausted = s.array.exhausted ∧
    (s.stopStanding o).array.scan = s.array.scan ∧
    (s.stopStanding o).array.erasesLost = s.array.erasesLost ∧
    (s.stopStanding o).retire = s.retire ∧
    (s.stopStanding o).port.selected = s.port.selected ∧
    (s.stopStanding o).port.decoder = s.port.decoder ∧
    (s.stopStanding o).port.taken = s.port.taken ∧
    (s.stopStanding o).port.response = s.port.response ∧
    (s.stopStanding o).port.readKey = s.port.readKey :=
  by unfold State.stopStanding; simp; (repeat' split) <;> simp

@[simp] theorem State.evaluateOne_frame (s : State) (o : Station) :
    (s.evaluateOne o).pending = s.pending ∧
    (s.evaluateOne o).now = s.now ∧
    (s.evaluateOne o).resetLow = s.resetLow ∧
    (s.evaluateOne o).selLow = s.selLow ∧
    (s.evaluateOne o).ctl = s.ctl ∧
    (s.evaluateOne o).members = s.members ∧
    (s.evaluateOne o).dir.designated = s.dir.designated ∧
    (s.evaluateOne o).dir.mark = s.dir.mark ∧
    (s.evaluateOne o).line = s.line ∧
    (s.evaluateOne o).engine.sending = s.engine.sending ∧
    (s.evaluateOne o).engine.assembly = s.engine.assembly ∧
    (s.evaluateOne o).array.flash = s.array.flash ∧
    (s.evaluateOne o).array.freeList = s.array.freeList ∧
    (s.evaluateOne o).array.badTable = s.array.badTable ∧
    (s.evaluateOne o).array.nextStamp = s.array.nextStamp ∧
    (s.evaluateOne o).array.running = s.array.running ∧
    (s.evaluateOne o).array.failure = s.array.failure ∧
    (s.evaluateOne o).array.reclaim = s.array.reclaim ∧
    (s.evaluateOne o).array.full = s.array.full ∧
    (s.evaluateOne o).array.exhausted = s.array.exhausted ∧
    (s.evaluateOne o).array.scan = s.array.scan ∧
    (s.evaluateOne o).array.erasesLost = s.array.erasesLost ∧
    (s.evaluateOne o).retire = s.retire ∧
    (s.evaluateOne o).port.selected = s.port.selected ∧
    (s.evaluateOne o).port.decoder = s.port.decoder ∧
    (s.evaluateOne o).port.taken = s.port.taken ∧
    (s.evaluateOne o).port.response = s.port.response ∧
    (s.evaluateOne o).port.readKey = s.port.readKey :=
  by unfold State.evaluateOne; simp; (repeat' split) <;> simp

@[simp] theorem State.evaluate_frame (s : State) :
    s.evaluate.pending = s.pending ∧
    s.evaluate.now = s.now ∧
    s.evaluate.resetLow = s.resetLow ∧
    s.evaluate.selLow = s.selLow ∧
    s.evaluate.ctl = s.ctl ∧
    s.evaluate.members = s.members ∧
    s.evaluate.dir.designated = s.dir.designated ∧
    s.evaluate.dir.mark = s.dir.mark ∧
    s.evaluate.line = s.line ∧
    s.evaluate.engine.sending = s.engine.sending ∧
    s.evaluate.engine.assembly = s.engine.assembly ∧
    s.evaluate.array.flash = s.array.flash ∧
    s.evaluate.array.freeList = s.array.freeList ∧
    s.evaluate.array.badTable = s.array.badTable ∧
    s.evaluate.array.nextStamp = s.array.nextStamp ∧
    s.evaluate.array.running = s.array.running ∧
    s.evaluate.array.failure = s.array.failure ∧
    s.evaluate.array.reclaim = s.array.reclaim ∧
    s.evaluate.array.full = s.array.full ∧
    s.evaluate.array.exhausted = s.array.exhausted ∧
    s.evaluate.array.scan = s.array.scan ∧
    s.evaluate.array.erasesLost = s.array.erasesLost ∧
    s.evaluate.retire = s.retire ∧
    s.evaluate.port.selected = s.port.selected ∧
    s.evaluate.port.decoder = s.port.decoder ∧
    s.evaluate.port.taken = s.port.taken ∧
    s.evaluate.port.response = s.port.response ∧
    s.evaluate.port.readKey = s.port.readKey :=
  by
    unfold State.evaluate
    split
    · rename_i h
      clear h
      generalize stations = l
      induction l generalizing s with
      | nil => simp
      | cons o l ih => simpa using ih (s.evaluateOne o)
    · simp

@[simp] theorem State.releaseChecks_frame (s : State) (changed : BitVec 16) :
    (s.releaseChecks changed).pending = s.pending ∧
    (s.releaseChecks changed).now = s.now ∧
    (s.releaseChecks changed).resetLow = s.resetLow ∧
    (s.releaseChecks changed).selLow = s.selLow ∧
    (s.releaseChecks changed).ctl = s.ctl ∧
    (s.releaseChecks changed).members = s.members ∧
    (s.releaseChecks changed).dir.designated = s.dir.designated ∧
    (s.releaseChecks changed).dir.mark = s.dir.mark ∧
    (s.releaseChecks changed).line = s.line ∧
    (s.releaseChecks changed).engine.sending = s.engine.sending ∧
    (s.releaseChecks changed).engine.assembly = s.engine.assembly ∧
    (s.releaseChecks changed).array.flash = s.array.flash ∧
    (s.releaseChecks changed).array.freeList = s.array.freeList ∧
    (s.releaseChecks changed).array.badTable = s.array.badTable ∧
    (s.releaseChecks changed).array.nextStamp = s.array.nextStamp ∧
    (s.releaseChecks changed).array.running = s.array.running ∧
    (s.releaseChecks changed).array.failure = s.array.failure ∧
    (s.releaseChecks changed).array.reclaim = s.array.reclaim ∧
    (s.releaseChecks changed).array.full = s.array.full ∧
    (s.releaseChecks changed).array.exhausted = s.array.exhausted ∧
    (s.releaseChecks changed).array.scan = s.array.scan ∧
    (s.releaseChecks changed).array.erasesLost = s.array.erasesLost ∧
    (s.releaseChecks changed).retire = s.retire ∧
    (s.releaseChecks changed).port.selected = s.port.selected ∧
    (s.releaseChecks changed).port.decoder = s.port.decoder ∧
    (s.releaseChecks changed).port.taken = s.port.taken ∧
    (s.releaseChecks changed).port.response = s.port.response ∧
    (s.releaseChecks changed).port.readKey = s.port.readKey :=
  by
    unfold State.releaseChecks
    generalize stations = l
    induction l generalizing s with
    | nil => simp
    | cons o l ih =>
      rw [List.foldl_cons]
      split
      · simpa using ih (s.releaseCheck o)
      · exact ih s

@[simp] theorem State.report_frame (s : State) (before : BitVec 16) :
    (s.report before).pending = s.pending ∧
    (s.report before).now = s.now ∧
    (s.report before).resetLow = s.resetLow ∧
    (s.report before).selLow = s.selLow ∧
    (s.report before).ctl = s.ctl ∧
    (s.report before).members = s.members ∧
    (s.report before).dir.designated = s.dir.designated ∧
    (s.report before).dir.mark = s.dir.mark ∧
    (s.report before).line = s.line ∧
    (s.report before).engine.sending = s.engine.sending ∧
    (s.report before).engine.assembly = s.engine.assembly ∧
    (s.report before).array.flash = s.array.flash ∧
    (s.report before).array.freeList = s.array.freeList ∧
    (s.report before).array.badTable = s.array.badTable ∧
    (s.report before).array.nextStamp = s.array.nextStamp ∧
    (s.report before).array.running = s.array.running ∧
    (s.report before).array.failure = s.array.failure ∧
    (s.report before).array.reclaim = s.array.reclaim ∧
    (s.report before).array.full = s.array.full ∧
    (s.report before).array.exhausted = s.array.exhausted ∧
    (s.report before).array.scan = s.array.scan ∧
    (s.report before).array.erasesLost = s.array.erasesLost ∧
    (s.report before).retire = s.retire ∧
    (s.report before).port.selected = s.port.selected ∧
    (s.report before).port.decoder = s.port.decoder ∧
    (s.report before).port.taken = s.port.taken ∧
    (s.report before).port.response = s.port.response ∧
    (s.report before).port.readKey = s.port.readKey :=
  by unfold State.report; simp; (repeat' split) <;> simp

@[simp] theorem State.afterStateChange_frame (s : State) (before : BitVec 16) :
    (s.afterStateChange before).pending = s.pending ∧
    (s.afterStateChange before).now = s.now ∧
    (s.afterStateChange before).resetLow = s.resetLow ∧
    (s.afterStateChange before).selLow = s.selLow ∧
    (s.afterStateChange before).ctl = s.ctl ∧
    (s.afterStateChange before).members = s.members ∧
    (s.afterStateChange before).dir.designated = s.dir.designated ∧
    (s.afterStateChange before).dir.mark = s.dir.mark ∧
    (s.afterStateChange before).line = s.line ∧
    (s.afterStateChange before).engine.sending = s.engine.sending ∧
    (s.afterStateChange before).engine.assembly = s.engine.assembly ∧
    (s.afterStateChange before).array.flash = s.array.flash ∧
    (s.afterStateChange before).array.freeList = s.array.freeList ∧
    (s.afterStateChange before).array.badTable = s.array.badTable ∧
    (s.afterStateChange before).array.nextStamp = s.array.nextStamp ∧
    (s.afterStateChange before).array.running = s.array.running ∧
    (s.afterStateChange before).array.failure = s.array.failure ∧
    (s.afterStateChange before).array.reclaim = s.array.reclaim ∧
    (s.afterStateChange before).array.full = s.array.full ∧
    (s.afterStateChange before).array.exhausted = s.array.exhausted ∧
    (s.afterStateChange before).array.scan = s.array.scan ∧
    (s.afterStateChange before).array.erasesLost = s.array.erasesLost ∧
    (s.afterStateChange before).retire = s.retire ∧
    (s.afterStateChange before).port.selected = s.port.selected ∧
    (s.afterStateChange before).port.decoder = s.port.decoder ∧
    (s.afterStateChange before).port.taken = s.port.taken ∧
    (s.afterStateChange before).port.response = s.port.response ∧
    (s.afterStateChange before).port.readKey = s.port.readKey :=
  by unfold State.afterStateChange; (repeat' split) <;> simp

@[simp] theorem State.dropWants_frame (s : State) (o : Station) :
    (s.dropWants o).pending = s.pending ∧
    (s.dropWants o).now = s.now ∧
    (s.dropWants o).resetLow = s.resetLow ∧
    (s.dropWants o).selLow = s.selLow ∧
    (s.dropWants o).ctl = s.ctl ∧
    (s.dropWants o).members = s.members ∧
    (s.dropWants o).dir = s.dir ∧
    (s.dropWants o).repl.publish = s.repl.publish ∧
    (s.dropWants o).repl.landing = s.repl.landing ∧
    (s.dropWants o).repl.fetch = s.repl.fetch ∧
    (s.dropWants o).line = s.line ∧
    (s.dropWants o).engine = s.engine ∧
    (s.dropWants o).array = s.array ∧
    (s.dropWants o).retire = s.retire ∧
    (s.dropWants o).port = s.port :=
  by unfold State.dropWants; simp; (repeat' split) <;> simp

@[simp] theorem State.retireFetch_frame (s : State) :
    s.retireFetch.pending = s.pending ∧
    s.retireFetch.now = s.now ∧
    s.retireFetch.resetLow = s.resetLow ∧
    s.retireFetch.selLow = s.selLow ∧
    s.retireFetch.ctl = s.ctl ∧
    s.retireFetch.members = s.members ∧
    s.retireFetch.dir = s.dir ∧
    s.retireFetch.repl.publish = s.repl.publish ∧
    s.retireFetch.repl.landing = s.repl.landing ∧
    s.retireFetch.repl.wants = s.repl.wants ∧
    s.retireFetch.line = s.line ∧
    s.retireFetch.engine = s.engine ∧
    s.retireFetch.array = s.array ∧
    s.retireFetch.retire = s.retire ∧
    s.retireFetch.port.selected = s.port.selected ∧
    s.retireFetch.port.decoder = s.port.decoder ∧
    s.retireFetch.port.taken = s.port.taken ∧
    s.retireFetch.port.response = s.port.response ∧
    s.retireFetch.port.readKey = s.port.readKey :=
  by unfold State.retireFetch; (repeat' split) <;> simp

@[simp] theorem State.setFloor_frame (s : State) (o : Station) (f : Nat) :
    (s.setFloor o f).pending = s.pending ∧
    (s.setFloor o f).now = s.now ∧
    (s.setFloor o f).resetLow = s.resetLow ∧
    (s.setFloor o f).selLow = s.selLow ∧
    (s.setFloor o f).ctl = s.ctl ∧
    (s.setFloor o f).members = s.members ∧
    (s.setFloor o f).dir.designated = s.dir.designated ∧
    (s.setFloor o f).dir.standins = s.dir.standins ∧
    (s.setFloor o f).dir.mark = s.dir.mark ∧
    (s.setFloor o f).line = s.line ∧
    (s.setFloor o f).engine.sending = s.engine.sending ∧
    (s.setFloor o f).engine.assembly = s.engine.assembly ∧
    (s.setFloor o f).array.flash = s.array.flash ∧
    (s.setFloor o f).array.freeList = s.array.freeList ∧
    (s.setFloor o f).array.badTable = s.array.badTable ∧
    (s.setFloor o f).array.nextStamp = s.array.nextStamp ∧
    (s.setFloor o f).array.running = s.array.running ∧
    (s.setFloor o f).array.failure = s.array.failure ∧
    (s.setFloor o f).array.reclaim = s.array.reclaim ∧
    (s.setFloor o f).array.full = s.array.full ∧
    (s.setFloor o f).array.exhausted = s.array.exhausted ∧
    (s.setFloor o f).array.scan = s.array.scan ∧
    (s.setFloor o f).array.erasesLost = s.array.erasesLost ∧
    (s.setFloor o f).retire = s.retire ∧
    (s.setFloor o f).port.selected = s.port.selected ∧
    (s.setFloor o f).port.decoder = s.port.decoder ∧
    (s.setFloor o f).port.taken = s.port.taken ∧
    (s.setFloor o f).port.response = s.port.response ∧
    (s.setFloor o f).port.readKey = s.port.readKey :=
  by unfold State.setFloor; (repeat' split) <;> simp

@[simp] theorem State.floorHeld_frame (s : State) (o : Station) (f : Nat) :
    (s.floorHeld o f).pending = s.pending ∧
    (s.floorHeld o f).now = s.now ∧
    (s.floorHeld o f).resetLow = s.resetLow ∧
    (s.floorHeld o f).selLow = s.selLow ∧
    (s.floorHeld o f).ctl = s.ctl ∧
    (s.floorHeld o f).members = s.members ∧
    (s.floorHeld o f).dir.designated = s.dir.designated ∧
    (s.floorHeld o f).dir.entries = s.dir.entries ∧
    (s.floorHeld o f).dir.mark = s.dir.mark ∧
    (s.floorHeld o f).repl = s.repl ∧
    (s.floorHeld o f).line = s.line ∧
    (s.floorHeld o f).engine = s.engine ∧
    (s.floorHeld o f).array = s.array ∧
    (s.floorHeld o f).retire = s.retire ∧
    (s.floorHeld o f).port = s.port :=
  ⟨rfl, rfl, rfl, rfl, rfl, rfl, rfl, rfl, rfl, rfl, rfl, rfl, rfl, rfl, rfl⟩

@[simp] theorem State.floorTold_frame (s : State) (o : Station) :
    (s.floorTold o).pending = s.pending ∧
    (s.floorTold o).now = s.now ∧
    (s.floorTold o).resetLow = s.resetLow ∧
    (s.floorTold o).selLow = s.selLow ∧
    (s.floorTold o).ctl = s.ctl ∧
    (s.floorTold o).members = s.members ∧
    (s.floorTold o).dir.designated = s.dir.designated ∧
    (s.floorTold o).dir.standins = s.dir.standins ∧
    (s.floorTold o).dir.entries = s.dir.entries ∧
    (s.floorTold o).dir.mark = s.dir.mark ∧
    (s.floorTold o).repl.landing = s.repl.landing ∧
    (s.floorTold o).line = s.line ∧
    (s.floorTold o).engine = s.engine ∧
    (s.floorTold o).array = s.array ∧
    (s.floorTold o).retire = s.retire ∧
    (s.floorTold o).port.selected = s.port.selected ∧
    (s.floorTold o).port.decoder = s.port.decoder ∧
    (s.floorTold o).port.taken = s.port.taken ∧
    (s.floorTold o).port.response = s.port.response ∧
    (s.floorTold o).port.readKey = s.port.readKey :=
  by unfold State.floorTold; simp; (repeat' split) <;> simp

@[simp] theorem State.raiseFloor_frame (s : State) (o : Station) (f : Nat) :
    (s.raiseFloor o f).pending = s.pending ∧
    (s.raiseFloor o f).now = s.now ∧
    (s.raiseFloor o f).resetLow = s.resetLow ∧
    (s.raiseFloor o f).selLow = s.selLow ∧
    (s.raiseFloor o f).ctl = s.ctl ∧
    (s.raiseFloor o f).members = s.members ∧
    (s.raiseFloor o f).dir.designated = s.dir.designated ∧
    (s.raiseFloor o f).dir.mark = s.dir.mark ∧
    (s.raiseFloor o f).line = s.line ∧
    (s.raiseFloor o f).engine.sending = s.engine.sending ∧
    (s.raiseFloor o f).engine.assembly = s.engine.assembly ∧
    (s.raiseFloor o f).array.flash = s.array.flash ∧
    (s.raiseFloor o f).array.freeList = s.array.freeList ∧
    (s.raiseFloor o f).array.badTable = s.array.badTable ∧
    (s.raiseFloor o f).array.nextStamp = s.array.nextStamp ∧
    (s.raiseFloor o f).array.running = s.array.running ∧
    (s.raiseFloor o f).array.failure = s.array.failure ∧
    (s.raiseFloor o f).array.reclaim = s.array.reclaim ∧
    (s.raiseFloor o f).array.full = s.array.full ∧
    (s.raiseFloor o f).array.exhausted = s.array.exhausted ∧
    (s.raiseFloor o f).array.scan = s.array.scan ∧
    (s.raiseFloor o f).array.erasesLost = s.array.erasesLost ∧
    (s.raiseFloor o f).retire = s.retire ∧
    (s.raiseFloor o f).port.selected = s.port.selected ∧
    (s.raiseFloor o f).port.decoder = s.port.decoder ∧
    (s.raiseFloor o f).port.taken = s.port.taken ∧
    (s.raiseFloor o f).port.response = s.port.response ∧
    (s.raiseFloor o f).port.readKey = s.port.readKey :=
  by unfold State.raiseFloor; (repeat' split) <;> simp

@[simp] theorem State.tellFloor_frame (s : State) (o : Station) (f : Nat) :
    (s.tellFloor o f).pending = s.pending ∧
    (s.tellFloor o f).now = s.now ∧
    (s.tellFloor o f).resetLow = s.resetLow ∧
    (s.tellFloor o f).selLow = s.selLow ∧
    (s.tellFloor o f).ctl = s.ctl ∧
    (s.tellFloor o f).members = s.members ∧
    (s.tellFloor o f).dir.designated = s.dir.designated ∧
    (s.tellFloor o f).dir.mark = s.dir.mark ∧
    (s.tellFloor o f).line = s.line ∧
    (s.tellFloor o f).engine.sending = s.engine.sending ∧
    (s.tellFloor o f).engine.assembly = s.engine.assembly ∧
    (s.tellFloor o f).array.flash = s.array.flash ∧
    (s.tellFloor o f).array.freeList = s.array.freeList ∧
    (s.tellFloor o f).array.badTable = s.array.badTable ∧
    (s.tellFloor o f).array.nextStamp = s.array.nextStamp ∧
    (s.tellFloor o f).array.running = s.array.running ∧
    (s.tellFloor o f).array.failure = s.array.failure ∧
    (s.tellFloor o f).array.reclaim = s.array.reclaim ∧
    (s.tellFloor o f).array.full = s.array.full ∧
    (s.tellFloor o f).array.exhausted = s.array.exhausted ∧
    (s.tellFloor o f).array.scan = s.array.scan ∧
    (s.tellFloor o f).array.erasesLost = s.array.erasesLost ∧
    (s.tellFloor o f).retire = s.retire ∧
    (s.tellFloor o f).port.selected = s.port.selected ∧
    (s.tellFloor o f).port.decoder = s.port.decoder ∧
    (s.tellFloor o f).port.taken = s.port.taken ∧
    (s.tellFloor o f).port.response = s.port.response ∧
    (s.tellFloor o f).port.readKey = s.port.readKey :=
  by unfold State.tellFloor; (repeat' split) <;> simp

end Sys2Proof.Machine
end

