-- ==== Sys2Proof/Laws/Arbiter.lean ====
section
/-! SUPPORT. What each operation of Machine/Control.lean and Machine/Arbiter.lean keeps; State.settle_frame says what no happening's consequences touch. -/

namespace Sys2Proof.Machine

set_option linter.unusedSimpArgs false

@[simp] theorem State.muteQueue_frame (s : State) :
    s.muteQueue.pending = s.pending ∧
    s.muteQueue.now = s.now ∧
    s.muteQueue.resetLow = s.resetLow ∧
    s.muteQueue.selLow = s.selLow ∧
    s.muteQueue.ctl = s.ctl ∧
    s.muteQueue.members = s.members ∧
    s.muteQueue.dir = s.dir ∧
    s.muteQueue.repl = s.repl ∧
    s.muteQueue.line = s.line ∧
    s.muteQueue.engine.sending = s.engine.sending ∧
    s.muteQueue.engine.assembly = s.engine.assembly ∧
    s.muteQueue.array = s.array ∧
    s.muteQueue.retire = s.retire ∧
    s.muteQueue.port = s.port :=
  by unfold State.muteQueue; simp; (repeat' split) <;> simp

@[simp] theorem State.dropAck_frame (s : State) :
    s.dropAck.pending = s.pending ∧
    s.dropAck.now = s.now ∧
    s.dropAck.resetLow = s.resetLow ∧
    s.dropAck.selLow = s.selLow ∧
    s.dropAck.ctl = s.ctl ∧
    s.dropAck.members = s.members ∧
    s.dropAck.dir = s.dir ∧
    s.dropAck.repl = s.repl ∧
    s.dropAck.engine = s.engine ∧
    s.dropAck.array = s.array ∧
    s.dropAck.retire = s.retire ∧
    s.dropAck.port = s.port :=
  by unfold State.dropAck; (repeat' split) <;> simp

@[simp] theorem State.publishMuted_frame (s : State) :
    s.publishMuted.pending = s.pending ∧
    s.publishMuted.now = s.now ∧
    s.publishMuted.resetLow = s.resetLow ∧
    s.publishMuted.selLow = s.selLow ∧
    s.publishMuted.ctl = s.ctl ∧
    s.publishMuted.members = s.members ∧
    s.publishMuted.dir = s.dir ∧
    s.publishMuted.repl.landing = s.repl.landing ∧
    s.publishMuted.repl.wants = s.repl.wants ∧
    s.publishMuted.repl.fetch = s.repl.fetch ∧
    s.publishMuted.line = s.line ∧
    s.publishMuted.engine = s.engine ∧
    s.publishMuted.array = s.array ∧
    s.publishMuted.retire = s.retire ∧
    s.publishMuted.port.selected = s.port.selected ∧
    s.publishMuted.port.decoder = s.port.decoder ∧
    s.publishMuted.port.taken = s.port.taken ∧
    s.publishMuted.port.response = s.port.response ∧
    s.publishMuted.port.read = s.port.read ∧
    s.publishMuted.port.readKey = s.port.readKey ∧
    s.publishMuted.port.readRequested = s.port.readRequested ∧
    s.publishMuted.port.readBuffer = s.port.readBuffer :=
  by unfold State.publishMuted; (repeat' split) <;> simp

@[simp] theorem State.enterMute_frame (s : State) :
    s.enterMute.pending = s.pending ∧
    s.enterMute.now = s.now ∧
    s.enterMute.resetLow = s.resetLow ∧
    s.enterMute.selLow = s.selLow ∧
    s.enterMute.ctl.stopping = s.ctl.stopping ∧
    s.enterMute.ctl.config = s.ctl.config ∧
    s.enterMute.members.peers = s.members.peers ∧
    s.enterMute.dir.designated = s.dir.designated ∧
    s.enterMute.dir.mark = s.dir.mark ∧
    s.enterMute.engine.sending = s.engine.sending ∧
    s.enterMute.engine.assembly = s.engine.assembly ∧
    s.enterMute.array.flash = s.array.flash ∧
    s.enterMute.array.freeList = s.array.freeList ∧
    s.enterMute.array.badTable = s.array.badTable ∧
    s.enterMute.array.nextStamp = s.array.nextStamp ∧
    s.enterMute.array.running = s.array.running ∧
    s.enterMute.array.failure = s.array.failure ∧
    s.enterMute.array.reclaim = s.array.reclaim ∧
    s.enterMute.array.full = s.array.full ∧
    s.enterMute.array.exhausted = s.array.exhausted ∧
    s.enterMute.array.scan = s.array.scan ∧
    s.enterMute.array.erasesLost = s.array.erasesLost ∧
    s.enterMute.retire = s.retire ∧
    s.enterMute.port.selected = s.port.selected ∧
    s.enterMute.port.decoder = s.port.decoder ∧
    s.enterMute.port.taken = s.port.taken ∧
    s.enterMute.port.response = s.port.response ∧
    s.enterMute.port.readKey = s.port.readKey :=
  by unfold State.enterMute; (repeat' split) <;> simp

@[simp] theorem State.discardLanding_frame (s : State) :
    s.discardLanding.pending = s.pending ∧
    s.discardLanding.now = s.now ∧
    s.discardLanding.resetLow = s.resetLow ∧
    s.discardLanding.selLow = s.selLow ∧
    s.discardLanding.ctl = s.ctl ∧
    s.discardLanding.members = s.members ∧
    s.discardLanding.dir.designated = s.dir.designated ∧
    s.discardLanding.dir.standins = s.dir.standins ∧
    s.discardLanding.dir.mark = s.dir.mark ∧
    s.discardLanding.line = s.line ∧
    s.discardLanding.engine.sending = s.engine.sending ∧
    s.discardLanding.engine.assembly = s.engine.assembly ∧
    s.discardLanding.array.flash = s.array.flash ∧
    s.discardLanding.array.freeList = s.array.freeList ∧
    s.discardLanding.array.badTable = s.array.badTable ∧
    s.discardLanding.array.nextStamp = s.array.nextStamp ∧
    s.discardLanding.array.running = s.array.running ∧
    s.discardLanding.array.failure = s.array.failure ∧
    s.discardLanding.array.reclaim = s.array.reclaim ∧
    s.discardLanding.array.full = s.array.full ∧
    s.discardLanding.array.exhausted = s.array.exhausted ∧
    s.discardLanding.array.scan = s.array.scan ∧
    s.discardLanding.array.erasesLost = s.array.erasesLost ∧
    s.discardLanding.retire = s.retire ∧
    s.discardLanding.port.selected = s.port.selected ∧
    s.discardLanding.port.decoder = s.port.decoder ∧
    s.discardLanding.port.taken = s.port.taken ∧
    s.discardLanding.port.response = s.port.response ∧
    s.discardLanding.port.readKey = s.port.readKey :=
  by unfold State.discardLanding; simp; (repeat' split) <;> simp

@[simp] theorem State.clearWants_frame (s : State) :
    s.clearWants.pending = s.pending ∧
    s.clearWants.now = s.now ∧
    s.clearWants.resetLow = s.resetLow ∧
    s.clearWants.selLow = s.selLow ∧
    s.clearWants.ctl = s.ctl ∧
    s.clearWants.members = s.members ∧
    s.clearWants.dir = s.dir ∧
    s.clearWants.repl.publish = s.repl.publish ∧
    s.clearWants.repl.landing = s.repl.landing ∧
    s.clearWants.repl.fetch = s.repl.fetch ∧
    s.clearWants.line = s.line ∧
    s.clearWants.engine.sending = s.engine.sending ∧
    s.clearWants.engine.assembly = s.engine.assembly ∧
    s.clearWants.array = s.array ∧
    s.clearWants.retire = s.retire ∧
    s.clearWants.port = s.port :=
  by unfold State.clearWants; simp; (repeat' split) <;> simp

@[simp] theorem State.retireFailed_frame (s : State) :
    s.retireFailed.pending = s.pending ∧
    s.retireFailed.now = s.now ∧
    s.retireFailed.resetLow = s.resetLow ∧
    s.retireFailed.selLow = s.selLow ∧
    s.retireFailed.ctl = s.ctl ∧
    s.retireFailed.members = s.members ∧
    s.retireFailed.dir = s.dir ∧
    s.retireFailed.repl = s.repl ∧
    s.retireFailed.line = s.line ∧
    s.retireFailed.engine = s.engine ∧
    s.retireFailed.array = s.array ∧
    s.retireFailed.port.selected = s.port.selected ∧
    s.retireFailed.port.decoder = s.port.decoder ∧
    s.retireFailed.port.taken = s.port.taken ∧
    s.retireFailed.port.response = s.port.response ∧
    s.retireFailed.port.read = s.port.read ∧
    s.retireFailed.port.readKey = s.port.readKey ∧
    s.retireFailed.port.readRequested = s.port.readRequested ∧
    s.retireFailed.port.readBuffer = s.port.readBuffer :=
  by unfold State.retireFailed; (repeat' split) <;> simp

@[simp] theorem State.startBeaconTimer_frame (s : State) :
    s.startBeaconTimer.pending = s.pending ∧
    s.startBeaconTimer.now = s.now ∧
    s.startBeaconTimer.resetLow = s.resetLow ∧
    s.startBeaconTimer.selLow = s.selLow ∧
    s.startBeaconTimer.ctl = s.ctl ∧
    s.startBeaconTimer.members.peers = s.members.peers ∧
    s.startBeaconTimer.dir = s.dir ∧
    s.startBeaconTimer.repl = s.repl ∧
    s.startBeaconTimer.line = s.line ∧
    s.startBeaconTimer.engine = s.engine ∧
    s.startBeaconTimer.array = s.array ∧
    s.startBeaconTimer.retire = s.retire ∧
    s.startBeaconTimer.port = s.port :=
  ⟨rfl, rfl, rfl, rfl, rfl, rfl, rfl, rfl, rfl, rfl, rfl, rfl, rfl⟩

@[simp] theorem State.endStoring_frame (s : State) :
    s.endStoring.pending = s.pending ∧
    s.endStoring.now = s.now ∧
    s.endStoring.resetLow = s.resetLow ∧
    s.endStoring.selLow = s.selLow ∧
    s.endStoring.ctl = s.ctl ∧
    s.endStoring.members = s.members ∧
    s.endStoring.dir.designated = s.dir.designated ∧
    s.endStoring.dir.standins = s.dir.standins ∧
    s.endStoring.dir.mark = s.dir.mark ∧
    s.endStoring.line = s.line ∧
    s.endStoring.engine.sending = s.engine.sending ∧
    s.endStoring.engine.assembly = s.engine.assembly ∧
    s.endStoring.array.flash = s.array.flash ∧
    s.endStoring.array.freeList = s.array.freeList ∧
    s.endStoring.array.badTable = s.array.badTable ∧
    s.endStoring.array.nextStamp = s.array.nextStamp ∧
    s.endStoring.array.running = s.array.running ∧
    s.endStoring.array.failure = s.array.failure ∧
    s.endStoring.array.reclaim = s.array.reclaim ∧
    s.endStoring.array.full = s.array.full ∧
    s.endStoring.array.exhausted = s.array.exhausted ∧
    s.endStoring.array.scan = s.array.scan ∧
    s.endStoring.array.erasesLost = s.array.erasesLost ∧
    s.endStoring.port.selected = s.port.selected ∧
    s.endStoring.port.decoder = s.port.decoder ∧
    s.endStoring.port.taken = s.port.taken ∧
    s.endStoring.port.response = s.port.response ∧
    s.endStoring.port.readKey = s.port.readKey :=
  by unfold State.endStoring; (repeat' split) <;> simp

@[simp] theorem State.withdrawnTimer_frame (s : State) (old : StationState) :
    (s.withdrawnTimer old).pending = s.pending ∧
    (s.withdrawnTimer old).now = s.now ∧
    (s.withdrawnTimer old).resetLow = s.resetLow ∧
    (s.withdrawnTimer old).selLow = s.selLow ∧
    (s.withdrawnTimer old).ctl = s.ctl ∧
    (s.withdrawnTimer old).members.peers = s.members.peers ∧
    (s.withdrawnTimer old).dir = s.dir ∧
    (s.withdrawnTimer old).repl = s.repl ∧
    (s.withdrawnTimer old).line = s.line ∧
    (s.withdrawnTimer old).engine = s.engine ∧
    (s.withdrawnTimer old).array = s.array ∧
    (s.withdrawnTimer old).retire = s.retire ∧
    (s.withdrawnTimer old).port = s.port :=
  by unfold State.withdrawnTimer; (repeat' split) <;> simp

@[simp] theorem State.enterWithdrawn_frame (s : State) :
    s.enterWithdrawn.pending = s.pending ∧
    s.enterWithdrawn.now = s.now ∧
    s.enterWithdrawn.resetLow = s.resetLow ∧
    s.enterWithdrawn.selLow = s.selLow ∧
    s.enterWithdrawn.ctl.stopping = s.ctl.stopping ∧
    s.enterWithdrawn.ctl.config = s.ctl.config ∧
    s.enterWithdrawn.members.peers = s.members.peers ∧
    s.enterWithdrawn.dir.designated = s.dir.designated ∧
    s.enterWithdrawn.dir.mark = s.dir.mark ∧
    s.enterWithdrawn.line = s.line ∧
    s.enterWithdrawn.engine.sending = s.engine.sending ∧
    s.enterWithdrawn.engine.assembly = s.engine.assembly ∧
    s.enterWithdrawn.array.flash = s.array.flash ∧
    s.enterWithdrawn.array.freeList = s.array.freeList ∧
    s.enterWithdrawn.array.badTable = s.array.badTable ∧
    s.enterWithdrawn.array.nextStamp = s.array.nextStamp ∧
    s.enterWithdrawn.array.running = s.array.running ∧
    s.enterWithdrawn.array.failure = s.array.failure ∧
    s.enterWithdrawn.array.reclaim = s.array.reclaim ∧
    s.enterWithdrawn.array.full = s.array.full ∧
    s.enterWithdrawn.array.exhausted = s.array.exhausted ∧
    s.enterWithdrawn.array.scan = s.array.scan ∧
    s.enterWithdrawn.array.erasesLost = s.array.erasesLost ∧
    s.enterWithdrawn.port.selected = s.port.selected ∧
    s.enterWithdrawn.port.decoder = s.port.decoder ∧
    s.enterWithdrawn.port.taken = s.port.taken ∧
    s.enterWithdrawn.port.response = s.port.response ∧
    s.enterWithdrawn.port.readKey = s.port.readKey :=
  by unfold State.enterWithdrawn; (repeat' split) <;> simp

@[simp] theorem State.stopArray_frame (s : State) :
    s.stopArray.pending = s.pending ∧
    s.stopArray.now = s.now ∧
    s.stopArray.resetLow = s.resetLow ∧
    s.stopArray.selLow = s.selLow ∧
    s.stopArray.ctl = s.ctl ∧
    s.stopArray.members = s.members ∧
    s.stopArray.dir = s.dir ∧
    s.stopArray.repl = s.repl ∧
    s.stopArray.line = s.line ∧
    s.stopArray.engine = s.engine ∧
    s.stopArray.array.flash = s.array.flash ∧
    s.stopArray.array.blocks = s.array.blocks ∧
    s.stopArray.array.freeList = s.array.freeList ∧
    s.stopArray.array.badTable = s.array.badTable ∧
    s.stopArray.array.nextStamp = s.array.nextStamp ∧
    s.stopArray.array.running = s.array.running ∧
    s.stopArray.array.full = s.array.full ∧
    s.stopArray.array.scan = s.array.scan ∧
    s.stopArray.array.erasesLost = s.array.erasesLost ∧
    s.stopArray.retire = s.retire ∧
    s.stopArray.port = s.port :=
  ⟨rfl, rfl, rfl, rfl, rfl, rfl, rfl, rfl, rfl, rfl, rfl, rfl, rfl, rfl, rfl, rfl, rfl, rfl, rfl, rfl, rfl⟩

@[simp] theorem State.withdraw_frame (s : State) :
    s.withdraw.pending = s.pending ∧
    s.withdraw.now = s.now ∧
    s.withdraw.resetLow = s.resetLow ∧
    s.withdraw.selLow = s.selLow ∧
    s.withdraw.ctl.stopping = s.ctl.stopping ∧
    s.withdraw.ctl.config = s.ctl.config ∧
    s.withdraw.members.peers = s.members.peers ∧
    s.withdraw.dir.designated = s.dir.designated ∧
    s.withdraw.dir.mark = s.dir.mark ∧
    s.withdraw.line = s.line ∧
    s.withdraw.engine.sending = s.engine.sending ∧
    s.withdraw.engine.assembly = s.engine.assembly ∧
    s.withdraw.array.flash = s.array.flash ∧
    s.withdraw.array.freeList = s.array.freeList ∧
    s.withdraw.array.badTable = s.array.badTable ∧
    s.withdraw.array.nextStamp = s.array.nextStamp ∧
    s.withdraw.array.running = s.array.running ∧
    s.withdraw.array.failure = s.array.failure ∧
    s.withdraw.array.reclaim = s.array.reclaim ∧
    s.withdraw.array.full = s.array.full ∧
    s.withdraw.array.exhausted = s.array.exhausted ∧
    s.withdraw.array.scan = s.array.scan ∧
    s.withdraw.array.erasesLost = s.array.erasesLost ∧
    s.withdraw.port.selected = s.port.selected ∧
    s.withdraw.port.decoder = s.port.decoder ∧
    s.withdraw.port.taken = s.port.taken ∧
    s.withdraw.port.response = s.port.response ∧
    s.withdraw.port.readKey = s.port.readKey :=
  by unfold State.withdraw; (repeat' split) <;> simp

@[simp] theorem State.exhaust_frame (s : State) (reason : StorageReason) (b : Block) :
    (s.exhaust reason b).pending = s.pending ∧
    (s.exhaust reason b).now = s.now ∧
    (s.exhaust reason b).resetLow = s.resetLow ∧
    (s.exhaust reason b).selLow = s.selLow ∧
    (s.exhaust reason b).ctl.stopping = s.ctl.stopping ∧
    (s.exhaust reason b).ctl.config = s.ctl.config ∧
    (s.exhaust reason b).members.peers = s.members.peers ∧
    (s.exhaust reason b).dir.designated = s.dir.designated ∧
    (s.exhaust reason b).dir.mark = s.dir.mark ∧
    (s.exhaust reason b).line = s.line ∧
    (s.exhaust reason b).engine.sending = s.engine.sending ∧
    (s.exhaust reason b).engine.assembly = s.engine.assembly ∧
    (s.exhaust reason b).array.flash = s.array.flash ∧
    (s.exhaust reason b).array.freeList = s.array.freeList ∧
    (s.exhaust reason b).array.badTable = s.array.badTable ∧
    (s.exhaust reason b).array.nextStamp = s.array.nextStamp ∧
    (s.exhaust reason b).array.running = s.array.running ∧
    (s.exhaust reason b).array.full = s.array.full ∧
    (s.exhaust reason b).array.scan = s.array.scan ∧
    (s.exhaust reason b).array.erasesLost = s.array.erasesLost ∧
    (s.exhaust reason b).port.selected = s.port.selected ∧
    (s.exhaust reason b).port.decoder = s.port.decoder ∧
    (s.exhaust reason b).port.taken = s.port.taken ∧
    (s.exhaust reason b).port.response = s.port.response ∧
    (s.exhaust reason b).port.readKey = s.port.readKey :=
  by unfold State.exhaust; (repeat' split) <;> simp

@[simp] theorem State.enterActive_frame (s : State) :
    s.enterActive.pending = s.pending ∧
    s.enterActive.now = s.now ∧
    s.enterActive.resetLow = s.resetLow ∧
    s.enterActive.selLow = s.selLow ∧
    s.enterActive.ctl.stopping = s.ctl.stopping ∧
    s.enterActive.ctl.config = s.ctl.config ∧
    s.enterActive.members = s.members ∧
    s.enterActive.dir.designated = s.dir.designated ∧
    s.enterActive.dir.mark = s.dir.mark ∧
    s.enterActive.line = s.line ∧
    s.enterActive.engine.sending = s.engine.sending ∧
    s.enterActive.engine.assembly = s.engine.assembly ∧
    s.enterActive.array.flash = s.array.flash ∧
    s.enterActive.array.freeList = s.array.freeList ∧
    s.enterActive.array.badTable = s.array.badTable ∧
    s.enterActive.array.nextStamp = s.array.nextStamp ∧
    s.enterActive.array.running = s.array.running ∧
    s.enterActive.array.failure = s.array.failure ∧
    s.enterActive.array.reclaim = s.array.reclaim ∧
    s.enterActive.array.full = s.array.full ∧
    s.enterActive.array.exhausted = s.array.exhausted ∧
    s.enterActive.array.scan = s.array.scan ∧
    s.enterActive.array.erasesLost = s.array.erasesLost ∧
    s.enterActive.retire = s.retire ∧
    s.enterActive.port.selected = s.port.selected ∧
    s.enterActive.port.decoder = s.port.decoder ∧
    s.enterActive.port.taken = s.port.taken ∧
    s.enterActive.port.response = s.port.response ∧
    s.enterActive.port.readKey = s.port.readKey :=
  by unfold State.enterActive; (repeat' split) <;> simp

@[simp] theorem State.joinExit_frame (s : State) :
    s.joinExit.pending = s.pending ∧
    s.joinExit.now = s.now ∧
    s.joinExit.resetLow = s.resetLow ∧
    s.joinExit.selLow = s.selLow ∧
    s.joinExit.ctl.stopping = s.ctl.stopping ∧
    s.joinExit.ctl.config = s.ctl.config ∧
    s.joinExit.members = s.members ∧
    s.joinExit.dir.designated = s.dir.designated ∧
    s.joinExit.dir.mark = s.dir.mark ∧
    s.joinExit.line = s.line ∧
    s.joinExit.engine.sending = s.engine.sending ∧
    s.joinExit.engine.assembly = s.engine.assembly ∧
    s.joinExit.array.flash = s.array.flash ∧
    s.joinExit.array.freeList = s.array.freeList ∧
    s.joinExit.array.badTable = s.array.badTable ∧
    s.joinExit.array.nextStamp = s.array.nextStamp ∧
    s.joinExit.array.running = s.array.running ∧
    s.joinExit.array.failure = s.array.failure ∧
    s.joinExit.array.reclaim = s.array.reclaim ∧
    s.joinExit.array.full = s.array.full ∧
    s.joinExit.array.exhausted = s.array.exhausted ∧
    s.joinExit.array.scan = s.array.scan ∧
    s.joinExit.array.erasesLost = s.array.erasesLost ∧
    s.joinExit.retire = s.retire ∧
    s.joinExit.port.selected = s.port.selected ∧
    s.joinExit.port.decoder = s.port.decoder ∧
    s.joinExit.port.taken = s.port.taken ∧
    s.joinExit.port.response = s.port.response ∧
    s.joinExit.port.readKey = s.port.readKey :=
  by unfold State.joinExit; (repeat' split) <;> simp

@[simp] theorem State.startValues_frame (s : State) :
    s.startValues.pending = s.pending ∧
    s.startValues.now = s.now ∧
    s.startValues.resetLow = s.resetLow ∧
    s.startValues.selLow = s.selLow ∧
    s.startValues.array.flash = s.array.flash ∧
    s.startValues.array.erasesLost = s.array.erasesLost :=
  ⟨rfl, rfl, rfl, rfl, rfl, rfl⟩

@[simp] theorem State.cutOperation_frame (s : State) :
    s.cutOperation.pending = s.pending ∧
    s.cutOperation.now = s.now ∧
    s.cutOperation.resetLow = s.resetLow ∧
    s.cutOperation.selLow = s.selLow ∧
    s.cutOperation.ctl = s.ctl ∧
    s.cutOperation.members = s.members ∧
    s.cutOperation.dir = s.dir ∧
    s.cutOperation.repl = s.repl ∧
    s.cutOperation.line = s.line ∧
    s.cutOperation.engine = s.engine ∧
    s.cutOperation.array.blocks = s.array.blocks ∧
    s.cutOperation.array.freeList = s.array.freeList ∧
    s.cutOperation.array.badTable = s.array.badTable ∧
    s.cutOperation.array.nextStamp = s.array.nextStamp ∧
    s.cutOperation.array.running = s.array.running ∧
    s.cutOperation.array.failure = s.array.failure ∧
    s.cutOperation.array.reclaim = s.array.reclaim ∧
    s.cutOperation.array.full = s.array.full ∧
    s.cutOperation.array.exhausted = s.array.exhausted ∧
    s.cutOperation.array.scan = s.array.scan ∧
    s.cutOperation.retire = s.retire ∧
    s.cutOperation.port = s.port :=
  by unfold State.cutOperation; (repeat' split) <;> simp

@[simp] theorem State.coldStart_frame (s : State) :
    s.coldStart.pending = s.pending ∧
    s.coldStart.now = s.now ∧
    s.coldStart.resetLow = s.resetLow :=
  by unfold State.coldStart; (repeat' split) <;> simp

@[simp] theorem State.run_frame (s : State) (op : ArrayOp) :
    (s.run op).pending = s.pending ∧
    (s.run op).now = s.now ∧
    (s.run op).resetLow = s.resetLow ∧
    (s.run op).selLow = s.selLow ∧
    (s.run op).ctl = s.ctl ∧
    (s.run op).members = s.members ∧
    (s.run op).dir = s.dir ∧
    (s.run op).repl = s.repl ∧
    (s.run op).line = s.line ∧
    (s.run op).engine = s.engine ∧
    (s.run op).array.flash = s.array.flash ∧
    (s.run op).array.blocks = s.array.blocks ∧
    (s.run op).array.freeList = s.array.freeList ∧
    (s.run op).array.badTable = s.array.badTable ∧
    (s.run op).array.nextStamp = s.array.nextStamp ∧
    (s.run op).array.failure = s.array.failure ∧
    (s.run op).array.reclaim = s.array.reclaim ∧
    (s.run op).array.full = s.array.full ∧
    (s.run op).array.exhausted = s.array.exhausted ∧
    (s.run op).array.scan = s.array.scan ∧
    (s.run op).array.erasesLost = s.array.erasesLost ∧
    (s.run op).retire = s.retire ∧
    (s.run op).port = s.port :=
  ⟨rfl, rfl, rfl, rfl, rfl, rfl, rfl, rfl, rfl, rfl, rfl, rfl, rfl, rfl, rfl, rfl, rfl, rfl, rfl, rfl, rfl, rfl, rfl⟩

@[simp] theorem State.endOperation_frame (s : State) :
    s.endOperation.pending = s.pending ∧
    s.endOperation.now = s.now ∧
    s.endOperation.resetLow = s.resetLow ∧
    s.endOperation.selLow = s.selLow ∧
    s.endOperation.ctl = s.ctl ∧
    s.endOperation.members = s.members ∧
    s.endOperation.dir = s.dir ∧
    s.endOperation.repl = s.repl ∧
    s.endOperation.line = s.line ∧
    s.endOperation.engine = s.engine ∧
    s.endOperation.array.flash = s.array.flash ∧
    s.endOperation.array.blocks = s.array.blocks ∧
    s.endOperation.array.freeList = s.array.freeList ∧
    s.endOperation.array.badTable = s.array.badTable ∧
    s.endOperation.array.nextStamp = s.array.nextStamp ∧
    s.endOperation.array.failure = s.array.failure ∧
    s.endOperation.array.reclaim = s.array.reclaim ∧
    s.endOperation.array.full = s.array.full ∧
    s.endOperation.array.exhausted = s.array.exhausted ∧
    s.endOperation.array.scan = s.array.scan ∧
    s.endOperation.array.erasesLost = s.array.erasesLost ∧
    s.endOperation.retire = s.retire ∧
    s.endOperation.port = s.port :=
  ⟨rfl, rfl, rfl, rfl, rfl, rfl, rfl, rfl, rfl, rfl, rfl, rfl, rfl, rfl, rfl, rfl, rfl, rfl, rfl, rfl, rfl, rfl, rfl⟩

@[simp] theorem State.beginStart_frame (s : State) :
    s.beginStart.pending = s.pending ∧
    s.beginStart.now = s.now ∧
    s.beginStart.resetLow = s.resetLow ∧
    s.beginStart.selLow = s.selLow ∧
    s.beginStart.ctl = s.ctl ∧
    s.beginStart.members = s.members ∧
    s.beginStart.dir = s.dir ∧
    s.beginStart.repl = s.repl ∧
    s.beginStart.line = s.line ∧
    s.beginStart.engine = s.engine ∧
    s.beginStart.array.flash = s.array.flash ∧
    s.beginStart.array.blocks = s.array.blocks ∧
    s.beginStart.array.freeList = s.array.freeList ∧
    s.beginStart.array.badTable = s.array.badTable ∧
    s.beginStart.array.nextStamp = s.array.nextStamp ∧
    s.beginStart.array.failure = s.array.failure ∧
    s.beginStart.array.reclaim = s.array.reclaim ∧
    s.beginStart.array.full = s.array.full ∧
    s.beginStart.array.exhausted = s.array.exhausted ∧
    s.beginStart.array.scan = s.array.scan ∧
    s.beginStart.array.erasesLost = s.array.erasesLost ∧
    s.beginStart.retire = s.retire ∧
    s.beginStart.port = s.port :=
  ⟨rfl, rfl, rfl, rfl, rfl, rfl, rfl, rfl, rfl, rfl, rfl, rfl, rfl, rfl, rfl, rfl, rfl, rfl, rfl, rfl, rfl, rfl, rfl⟩

@[simp] theorem State.clearQueue_frame (s : State) :
    s.clearQueue.pending = s.pending ∧
    s.clearQueue.now = s.now ∧
    s.clearQueue.resetLow = s.resetLow ∧
    s.clearQueue.selLow = s.selLow ∧
    s.clearQueue.ctl = s.ctl ∧
    s.clearQueue.members = s.members ∧
    s.clearQueue.dir = s.dir ∧
    s.clearQueue.repl = s.repl ∧
    s.clearQueue.line = s.line ∧
    s.clearQueue.engine.assembly = s.engine.assembly ∧
    s.clearQueue.array = s.array ∧
    s.clearQueue.retire = s.retire ∧
    s.clearQueue.port = s.port :=
  by unfold State.clearQueue; simp

@[simp] theorem State.clearQueue_engine (s : State) :
    s.clearQueue.engine.queue = [] ∧ s.clearQueue.engine.sending = none := by
  unfold State.clearQueue; simp

@[simp] theorem State.warmStart_frame (s : State) :
    s.warmStart.pending = s.pending ∧
    s.warmStart.now = s.now ∧
    s.warmStart.resetLow = s.resetLow ∧
    s.warmStart.selLow = s.selLow ∧
    s.warmStart.ctl.state = s.ctl.state ∧
    s.warmStart.ctl.config = s.ctl.config ∧
    s.warmStart.ctl.since = s.ctl.since ∧
    s.warmStart.members = s.members ∧
    s.warmStart.dir = s.dir ∧
    s.warmStart.repl = s.repl ∧
    s.warmStart.engine.assembly = s.engine.assembly ∧
    s.warmStart.array = s.array ∧
    s.warmStart.retire = s.retire ∧
    s.warmStart.port = s.port :=
  by unfold State.warmStart; simp; (repeat' split) <;> simp

@[simp] theorem State.reclaimPast_frame (s : State) (owner : ProgOwner) :
    (s.reclaimPast owner).pending = s.pending ∧
    (s.reclaimPast owner).now = s.now ∧
    (s.reclaimPast owner).resetLow = s.resetLow ∧
    (s.reclaimPast owner).selLow = s.selLow ∧
    (s.reclaimPast owner).ctl = s.ctl ∧
    (s.reclaimPast owner).members = s.members ∧
    (s.reclaimPast owner).dir = s.dir ∧
    (s.reclaimPast owner).repl = s.repl ∧
    (s.reclaimPast owner).line = s.line ∧
    (s.reclaimPast owner).engine = s.engine ∧
    (s.reclaimPast owner).array.flash = s.array.flash ∧
    (s.reclaimPast owner).array.blocks = s.array.blocks ∧
    (s.reclaimPast owner).array.freeList = s.array.freeList ∧
    (s.reclaimPast owner).array.badTable = s.array.badTable ∧
    (s.reclaimPast owner).array.nextStamp = s.array.nextStamp ∧
    (s.reclaimPast owner).array.running = s.array.running ∧
    (s.reclaimPast owner).array.failure = s.array.failure ∧
    (s.reclaimPast owner).array.full = s.array.full ∧
    (s.reclaimPast owner).array.exhausted = s.array.exhausted ∧
    (s.reclaimPast owner).array.scan = s.array.scan ∧
    (s.reclaimPast owner).array.erasesLost = s.array.erasesLost ∧
    (s.reclaimPast owner).retire = s.retire ∧
    (s.reclaimPast owner).port = s.port :=
  by unfold State.reclaimPast; (repeat' split) <;> simp

@[simp] theorem State.freeItem_frame (s : State) (item : ProgItem) (src : Source) :
    (s.freeItem item src).pending = s.pending ∧
    (s.freeItem item src).now = s.now ∧
    (s.freeItem item src).resetLow = s.resetLow ∧
    (s.freeItem item src).selLow = s.selLow ∧
    (s.freeItem item src).ctl = s.ctl ∧
    (s.freeItem item src).members = s.members ∧
    (s.freeItem item src).dir = s.dir ∧
    (s.freeItem item src).repl.wants = s.repl.wants ∧
    (s.freeItem item src).repl.fetch = s.repl.fetch ∧
    (s.freeItem item src).line = s.line ∧
    (s.freeItem item src).engine = s.engine ∧
    (s.freeItem item src).array.flash = s.array.flash ∧
    (s.freeItem item src).array.blocks = s.array.blocks ∧
    (s.freeItem item src).array.freeList = s.array.freeList ∧
    (s.freeItem item src).array.badTable = s.array.badTable ∧
    (s.freeItem item src).array.nextStamp = s.array.nextStamp ∧
    (s.freeItem item src).array.running = s.array.running ∧
    (s.freeItem item src).array.failure = s.array.failure ∧
    (s.freeItem item src).array.full = s.array.full ∧
    (s.freeItem item src).array.exhausted = s.array.exhausted ∧
    (s.freeItem item src).array.scan = s.array.scan ∧
    (s.freeItem item src).array.erasesLost = s.array.erasesLost ∧
    (s.freeItem item src).retire = s.retire ∧
    (s.freeItem item src).port = s.port :=
  by unfold State.freeItem; (repeat' split) <;> simp

@[simp] theorem State.dropPage_frame (s : State) :
    s.dropPage.pending = s.pending ∧
    s.dropPage.now = s.now ∧
    s.dropPage.resetLow = s.resetLow ∧
    s.dropPage.selLow = s.selLow ∧
    s.dropPage.ctl = s.ctl ∧
    s.dropPage.members = s.members ∧
    s.dropPage.dir = s.dir ∧
    s.dropPage.repl.wants = s.repl.wants ∧
    s.dropPage.repl.fetch = s.repl.fetch ∧
    s.dropPage.line = s.line ∧
    s.dropPage.engine = s.engine ∧
    s.dropPage.array.flash = s.array.flash ∧
    s.dropPage.array.blocks = s.array.blocks ∧
    s.dropPage.array.freeList = s.array.freeList ∧
    s.dropPage.array.badTable = s.array.badTable ∧
    s.dropPage.array.nextStamp = s.array.nextStamp ∧
    s.dropPage.array.running = s.array.running ∧
    s.dropPage.array.full = s.array.full ∧
    s.dropPage.array.exhausted = s.array.exhausted ∧
    s.dropPage.array.scan = s.array.scan ∧
    s.dropPage.array.erasesLost = s.array.erasesLost ∧
    s.dropPage.retire = s.retire ∧
    s.dropPage.port = s.port :=
  by unfold State.dropPage; (repeat' split) <;> simp

@[simp] theorem State.dropCopies_frame (s : State) :
    s.dropCopies.pending = s.pending ∧
    s.dropCopies.now = s.now ∧
    s.dropCopies.resetLow = s.resetLow ∧
    s.dropCopies.selLow = s.selLow ∧
    s.dropCopies.ctl = s.ctl ∧
    s.dropCopies.members = s.members ∧
    s.dropCopies.dir = s.dir ∧
    s.dropCopies.repl = s.repl ∧
    s.dropCopies.line = s.line ∧
    s.dropCopies.engine = s.engine ∧
    s.dropCopies.array.flash = s.array.flash ∧
    s.dropCopies.array.blocks = s.array.blocks ∧
    s.dropCopies.array.freeList = s.array.freeList ∧
    s.dropCopies.array.badTable = s.array.badTable ∧
    s.dropCopies.array.nextStamp = s.array.nextStamp ∧
    s.dropCopies.array.running = s.array.running ∧
    s.dropCopies.array.full = s.array.full ∧
    s.dropCopies.array.exhausted = s.array.exhausted ∧
    s.dropCopies.array.scan = s.array.scan ∧
    s.dropCopies.array.erasesLost = s.array.erasesLost ∧
    s.dropCopies.retire = s.retire ∧
    s.dropCopies.port = s.port :=
  by unfold State.dropCopies; simp; (repeat' split) <;> simp

@[simp] theorem State.exhaustIfNoSlot_frame (s : State) :
    s.exhaustIfNoSlot.pending = s.pending ∧
    s.exhaustIfNoSlot.now = s.now ∧
    s.exhaustIfNoSlot.resetLow = s.resetLow ∧
    s.exhaustIfNoSlot.selLow = s.selLow ∧
    s.exhaustIfNoSlot.ctl.stopping = s.ctl.stopping ∧
    s.exhaustIfNoSlot.ctl.config = s.ctl.config ∧
    s.exhaustIfNoSlot.members.peers = s.members.peers ∧
    s.exhaustIfNoSlot.dir.designated = s.dir.designated ∧
    s.exhaustIfNoSlot.dir.mark = s.dir.mark ∧
    s.exhaustIfNoSlot.line = s.line ∧
    s.exhaustIfNoSlot.engine.sending = s.engine.sending ∧
    s.exhaustIfNoSlot.engine.assembly = s.engine.assembly ∧
    s.exhaustIfNoSlot.array.flash = s.array.flash ∧
    s.exhaustIfNoSlot.array.freeList = s.array.freeList ∧
    s.exhaustIfNoSlot.array.badTable = s.array.badTable ∧
    s.exhaustIfNoSlot.array.nextStamp = s.array.nextStamp ∧
    s.exhaustIfNoSlot.array.running = s.array.running ∧
    s.exhaustIfNoSlot.array.full = s.array.full ∧
    s.exhaustIfNoSlot.array.scan = s.array.scan ∧
    s.exhaustIfNoSlot.array.erasesLost = s.array.erasesLost ∧
    s.exhaustIfNoSlot.port.selected = s.port.selected ∧
    s.exhaustIfNoSlot.port.decoder = s.port.decoder ∧
    s.exhaustIfNoSlot.port.taken = s.port.taken ∧
    s.exhaustIfNoSlot.port.response = s.port.response ∧
    s.exhaustIfNoSlot.port.readKey = s.port.readKey :=
  by unfold State.exhaustIfNoSlot; (repeat' split) <;> simp

@[simp] theorem State.endRelocate_frame (s : State) :
    s.endRelocate.pending = s.pending ∧
    s.endRelocate.now = s.now ∧
    s.endRelocate.resetLow = s.resetLow ∧
    s.endRelocate.selLow = s.selLow ∧
    s.endRelocate.ctl = s.ctl ∧
    s.endRelocate.members = s.members ∧
    s.endRelocate.dir = s.dir ∧
    s.endRelocate.repl = s.repl ∧
    s.endRelocate.line = s.line ∧
    s.endRelocate.engine = s.engine ∧
    s.endRelocate.array.flash = s.array.flash ∧
    s.endRelocate.array.blocks = s.array.blocks ∧
    s.endRelocate.array.freeList = s.array.freeList ∧
    s.endRelocate.array.badTable = s.array.badTable ∧
    s.endRelocate.array.nextStamp = s.array.nextStamp ∧
    s.endRelocate.array.running = s.array.running ∧
    s.endRelocate.array.failure = s.array.failure ∧
    s.endRelocate.array.full = s.array.full ∧
    s.endRelocate.array.exhausted = s.array.exhausted ∧
    s.endRelocate.array.scan = s.array.scan ∧
    s.endRelocate.array.erasesLost = s.array.erasesLost ∧
    s.endRelocate.retire = s.retire ∧
    s.endRelocate.port = s.port :=
  by unfold State.endRelocate; (repeat' split) <;> simp

@[simp] theorem State.searchVictim_frame (s : State) :
    s.searchVictim.pending = s.pending ∧
    s.searchVictim.now = s.now ∧
    s.searchVictim.resetLow = s.resetLow ∧
    s.searchVictim.selLow = s.selLow ∧
    s.searchVictim.ctl = s.ctl ∧
    s.searchVictim.members = s.members ∧
    s.searchVictim.dir = s.dir ∧
    s.searchVictim.repl = s.repl ∧
    s.searchVictim.line = s.line ∧
    s.searchVictim.engine = s.engine ∧
    s.searchVictim.array.flash = s.array.flash ∧
    s.searchVictim.array.freeList = s.array.freeList ∧
    s.searchVictim.array.badTable = s.array.badTable ∧
    s.searchVictim.array.nextStamp = s.array.nextStamp ∧
    s.searchVictim.array.running = s.array.running ∧
    s.searchVictim.array.failure = s.array.failure ∧
    s.searchVictim.array.full = s.array.full ∧
    s.searchVictim.array.exhausted = s.array.exhausted ∧
    s.searchVictim.array.scan = s.array.scan ∧
    s.searchVictim.array.erasesLost = s.array.erasesLost ∧
    s.searchVictim.retire = s.retire ∧
    s.searchVictim.port = s.port :=
  by unfold State.searchVictim; (repeat' split) <;> simp

@[simp] theorem State.setFull_frame (s : State) (b : Bool) :
    (s.setFull b).pending = s.pending ∧
    (s.setFull b).now = s.now ∧
    (s.setFull b).resetLow = s.resetLow ∧
    (s.setFull b).selLow = s.selLow ∧
    (s.setFull b).ctl = s.ctl ∧
    (s.setFull b).members = s.members ∧
    (s.setFull b).dir.designated = s.dir.designated ∧
    (s.setFull b).dir.mark = s.dir.mark ∧
    (s.setFull b).line = s.line ∧
    (s.setFull b).engine.sending = s.engine.sending ∧
    (s.setFull b).engine.assembly = s.engine.assembly ∧
    (s.setFull b).array.flash = s.array.flash ∧
    (s.setFull b).array.freeList = s.array.freeList ∧
    (s.setFull b).array.badTable = s.array.badTable ∧
    (s.setFull b).array.nextStamp = s.array.nextStamp ∧
    (s.setFull b).array.running = s.array.running ∧
    (s.setFull b).array.failure = s.array.failure ∧
    (s.setFull b).array.reclaim = s.array.reclaim ∧
    (s.setFull b).array.exhausted = s.array.exhausted ∧
    (s.setFull b).array.scan = s.array.scan ∧
    (s.setFull b).array.erasesLost = s.array.erasesLost ∧
    (s.setFull b).retire = s.retire ∧
    (s.setFull b).port.selected = s.port.selected ∧
    (s.setFull b).port.decoder = s.port.decoder ∧
    (s.setFull b).port.taken = s.port.taken ∧
    (s.setFull b).port.response = s.port.response ∧
    (s.setFull b).port.readKey = s.port.readKey :=
  by unfold State.setFull; (repeat' split) <;> simp

@[simp] theorem State.judgeFull_frame (s : State) :
    s.judgeFull.pending = s.pending ∧
    s.judgeFull.now = s.now ∧
    s.judgeFull.resetLow = s.resetLow ∧
    s.judgeFull.selLow = s.selLow ∧
    s.judgeFull.ctl = s.ctl ∧
    s.judgeFull.members = s.members ∧
    s.judgeFull.dir.designated = s.dir.designated ∧
    s.judgeFull.dir.mark = s.dir.mark ∧
    s.judgeFull.line = s.line ∧
    s.judgeFull.engine.sending = s.engine.sending ∧
    s.judgeFull.engine.assembly = s.engine.assembly ∧
    s.judgeFull.array.flash = s.array.flash ∧
    s.judgeFull.array.freeList = s.array.freeList ∧
    s.judgeFull.array.badTable = s.array.badTable ∧
    s.judgeFull.array.nextStamp = s.array.nextStamp ∧
    s.judgeFull.array.running = s.array.running ∧
    s.judgeFull.array.failure = s.array.failure ∧
    s.judgeFull.array.reclaim = s.array.reclaim ∧
    s.judgeFull.array.exhausted = s.array.exhausted ∧
    s.judgeFull.array.scan = s.array.scan ∧
    s.judgeFull.array.erasesLost = s.array.erasesLost ∧
    s.judgeFull.retire = s.retire ∧
    s.judgeFull.port.selected = s.port.selected ∧
    s.judgeFull.port.decoder = s.port.decoder ∧
    s.judgeFull.port.taken = s.port.taken ∧
    s.judgeFull.port.response = s.port.response ∧
    s.judgeFull.port.readKey = s.port.readKey :=
  by unfold State.judgeFull; (repeat' split) <;> simp

@[simp] theorem State.takeOverMark_frame (s : State) :
    s.takeOverMark.pending = s.pending ∧
    s.takeOverMark.now = s.now ∧
    s.takeOverMark.resetLow = s.resetLow ∧
    s.takeOverMark.selLow = s.selLow ∧
    s.takeOverMark.ctl = s.ctl ∧
    s.takeOverMark.members = s.members ∧
    s.takeOverMark.dir = s.dir ∧
    s.takeOverMark.repl = s.repl ∧
    s.takeOverMark.line = s.line ∧
    s.takeOverMark.engine = s.engine ∧
    s.takeOverMark.array.flash = s.array.flash ∧
    s.takeOverMark.array.blocks = s.array.blocks ∧
    s.takeOverMark.array.freeList = s.array.freeList ∧
    s.takeOverMark.array.badTable = s.array.badTable ∧
    s.takeOverMark.array.nextStamp = s.array.nextStamp ∧
    s.takeOverMark.array.running = s.array.running ∧
    s.takeOverMark.array.failure = s.array.failure ∧
    s.takeOverMark.array.full = s.array.full ∧
    s.takeOverMark.array.exhausted = s.array.exhausted ∧
    s.takeOverMark.array.scan = s.array.scan ∧
    s.takeOverMark.array.erasesLost = s.array.erasesLost ∧
    s.takeOverMark.port = s.port :=
  by unfold State.takeOverMark; (repeat' split) <;> simp

@[simp] theorem State.askWants_frame (s : State) :
    s.askWants.pending = s.pending ∧
    s.askWants.now = s.now ∧
    s.askWants.resetLow = s.resetLow ∧
    s.askWants.selLow = s.selLow ∧
    s.askWants.ctl = s.ctl ∧
    s.askWants.members = s.members ∧
    s.askWants.dir = s.dir ∧
    s.askWants.repl.publish = s.repl.publish ∧
    s.askWants.repl.landing = s.repl.landing ∧
    s.askWants.repl.fetch = s.repl.fetch ∧
    s.askWants.line = s.line ∧
    s.askWants.engine.sending = s.engine.sending ∧
    s.askWants.engine.staging = s.engine.staging ∧
    s.askWants.engine.assembly = s.engine.assembly ∧
    s.askWants.array = s.array ∧
    s.askWants.retire = s.retire ∧
    s.askWants.port = s.port :=
  by unfold State.askWants; simp; (repeat' split) <;> simp

@[simp] theorem State.placeHeldAsk_frame (s : State) :
    s.placeHeldAsk.pending = s.pending ∧
    s.placeHeldAsk.now = s.now ∧
    s.placeHeldAsk.resetLow = s.resetLow ∧
    s.placeHeldAsk.selLow = s.selLow ∧
    s.placeHeldAsk.ctl = s.ctl ∧
    s.placeHeldAsk.members = s.members ∧
    s.placeHeldAsk.dir = s.dir ∧
    s.placeHeldAsk.repl.publish = s.repl.publish ∧
    s.placeHeldAsk.repl.landing = s.repl.landing ∧
    s.placeHeldAsk.repl.wants = s.repl.wants ∧
    s.placeHeldAsk.line = s.line ∧
    s.placeHeldAsk.engine.sending = s.engine.sending ∧
    s.placeHeldAsk.engine.staging = s.engine.staging ∧
    s.placeHeldAsk.engine.assembly = s.engine.assembly ∧
    s.placeHeldAsk.array = s.array ∧
    s.placeHeldAsk.retire = s.retire ∧
    s.placeHeldAsk.port = s.port :=
  by unfold State.placeHeldAsk; (repeat' split) <;> simp

@[simp] theorem State.stageNext_frame (s : State) :
    s.stageNext.pending = s.pending ∧
    s.stageNext.now = s.now ∧
    s.stageNext.resetLow = s.resetLow ∧
    s.stageNext.selLow = s.selLow ∧
    s.stageNext.ctl = s.ctl ∧
    s.stageNext.members = s.members ∧
    s.stageNext.dir = s.dir ∧
    s.stageNext.repl = s.repl ∧
    s.stageNext.line = s.line ∧
    s.stageNext.engine.queue = s.engine.queue ∧
    s.stageNext.engine.sending = s.engine.sending ∧
    s.stageNext.engine.assembly = s.engine.assembly ∧
    s.stageNext.array = s.array ∧
    s.stageNext.retire = s.retire ∧
    s.stageNext.port = s.port :=
  by unfold State.stageNext; (repeat' split) <;> simp

@[simp] theorem State.requestLanding_frame (s : State) :
    s.requestLanding.pending = s.pending ∧
    s.requestLanding.now = s.now ∧
    s.requestLanding.resetLow = s.resetLow ∧
    s.requestLanding.selLow = s.selLow ∧
    s.requestLanding.ctl = s.ctl ∧
    s.requestLanding.members = s.members ∧
    s.requestLanding.dir = s.dir ∧
    s.requestLanding.repl.publish = s.repl.publish ∧
    s.requestLanding.repl.wants = s.repl.wants ∧
    s.requestLanding.repl.fetch = s.repl.fetch ∧
    s.requestLanding.line = s.line ∧
    s.requestLanding.engine = s.engine ∧
    s.requestLanding.array = s.array ∧
    s.requestLanding.retire = s.retire ∧
    s.requestLanding.port = s.port :=
  by unfold State.requestLanding; simp; (repeat' split) <;> simp

@[simp] theorem State.grantRead_frame (s : State) (src : Source) (t : ReadTarget) (l : Loc) :
    (s.grantRead src t l).pending = s.pending ∧
    (s.grantRead src t l).now = s.now ∧
    (s.grantRead src t l).resetLow = s.resetLow ∧
    (s.grantRead src t l).selLow = s.selLow ∧
    (s.grantRead src t l).ctl = s.ctl ∧
    (s.grantRead src t l).members = s.members ∧
    (s.grantRead src t l).dir = s.dir ∧
    (s.grantRead src t l).repl = s.repl ∧
    (s.grantRead src t l).line = s.line ∧
    (s.grantRead src t l).engine = s.engine ∧
    (s.grantRead src t l).array.flash = s.array.flash ∧
    (s.grantRead src t l).array.blocks = s.array.blocks ∧
    (s.grantRead src t l).array.freeList = s.array.freeList ∧
    (s.grantRead src t l).array.badTable = s.array.badTable ∧
    (s.grantRead src t l).array.nextStamp = s.array.nextStamp ∧
    (s.grantRead src t l).array.failure = s.array.failure ∧
    (s.grantRead src t l).array.reclaim = s.array.reclaim ∧
    (s.grantRead src t l).array.full = s.array.full ∧
    (s.grantRead src t l).array.exhausted = s.array.exhausted ∧
    (s.grantRead src t l).array.scan = s.array.scan ∧
    (s.grantRead src t l).array.erasesLost = s.array.erasesLost ∧
    (s.grantRead src t l).retire = s.retire ∧
    (s.grantRead src t l).port = s.port :=
  ⟨rfl, rfl, rfl, rfl, rfl, rfl, rfl, rfl, rfl, rfl, rfl, rfl, rfl, rfl, rfl, rfl, rfl, rfl, rfl, rfl, rfl, rfl, rfl⟩

@[simp] theorem State.grantProgram_frame (s : State) (src : Source) (item : ProgItem) :
    (s.grantProgram src item).pending = s.pending ∧
    (s.grantProgram src item).now = s.now ∧
    (s.grantProgram src item).resetLow = s.resetLow ∧
    (s.grantProgram src item).selLow = s.selLow ∧
    (s.grantProgram src item).ctl = s.ctl ∧
    (s.grantProgram src item).members = s.members ∧
    (s.grantProgram src item).dir = s.dir ∧
    (s.grantProgram src item).repl = s.repl ∧
    (s.grantProgram src item).line = s.line ∧
    (s.grantProgram src item).engine = s.engine ∧
    (s.grantProgram src item).array.freeList = s.array.freeList ∧
    (s.grantProgram src item).array.badTable = s.array.badTable ∧
    (s.grantProgram src item).array.failure = s.array.failure ∧
    (s.grantProgram src item).array.reclaim = s.array.reclaim ∧
    (s.grantProgram src item).array.full = s.array.full ∧
    (s.grantProgram src item).array.exhausted = s.array.exhausted ∧
    (s.grantProgram src item).array.scan = s.array.scan ∧
    (s.grantProgram src item).array.erasesLost = s.array.erasesLost ∧
    (s.grantProgram src item).retire = s.retire ∧
    (s.grantProgram src item).port = s.port :=
  by unfold State.grantProgram; (repeat' split) <;> simp

@[simp] theorem State.grantTag_frame (s : State) (src : Source) (b : Block) (reason : StorageReason) :
    (s.grantTag src b reason).pending = s.pending ∧
    (s.grantTag src b reason).now = s.now ∧
    (s.grantTag src b reason).resetLow = s.resetLow ∧
    (s.grantTag src b reason).selLow = s.selLow ∧
    (s.grantTag src b reason).ctl = s.ctl ∧
    (s.grantTag src b reason).members = s.members ∧
    (s.grantTag src b reason).dir = s.dir ∧
    (s.grantTag src b reason).repl = s.repl ∧
    (s.grantTag src b reason).line = s.line ∧
    (s.grantTag src b reason).engine = s.engine ∧
    (s.grantTag src b reason).array.blocks = s.array.blocks ∧
    (s.grantTag src b reason).array.freeList = s.array.freeList ∧
    (s.grantTag src b reason).array.badTable = s.array.badTable ∧
    (s.grantTag src b reason).array.failure = s.array.failure ∧
    (s.grantTag src b reason).array.reclaim = s.array.reclaim ∧
    (s.grantTag src b reason).array.full = s.array.full ∧
    (s.grantTag src b reason).array.exhausted = s.array.exhausted ∧
    (s.grantTag src b reason).array.scan = s.array.scan ∧
    (s.grantTag src b reason).array.erasesLost = s.array.erasesLost ∧
    (s.grantTag src b reason).retire = s.retire ∧
    (s.grantTag src b reason).port = s.port :=
  ⟨rfl, rfl, rfl, rfl, rfl, rfl, rfl, rfl, rfl, rfl, rfl, rfl, rfl, rfl, rfl, rfl, rfl, rfl, rfl, rfl, rfl⟩

@[simp] theorem State.grantStep_frame (s : State) (src : Source) (st : ArrayStep) :
    (s.grantStep src st).pending = s.pending ∧
    (s.grantStep src st).now = s.now ∧
    (s.grantStep src st).resetLow = s.resetLow ∧
    (s.grantStep src st).selLow = s.selLow ∧
    (s.grantStep src st).ctl = s.ctl ∧
    (s.grantStep src st).members = s.members ∧
    (s.grantStep src st).dir = s.dir ∧
    (s.grantStep src st).repl = s.repl ∧
    (s.grantStep src st).line = s.line ∧
    (s.grantStep src st).engine = s.engine ∧
    (s.grantStep src st).array.freeList = s.array.freeList ∧
    (s.grantStep src st).array.badTable = s.array.badTable ∧
    (s.grantStep src st).array.failure = s.array.failure ∧
    (s.grantStep src st).array.reclaim = s.array.reclaim ∧
    (s.grantStep src st).array.full = s.array.full ∧
    (s.grantStep src st).array.exhausted = s.array.exhausted ∧
    (s.grantStep src st).array.scan = s.array.scan ∧
    (s.grantStep src st).array.erasesLost = s.array.erasesLost ∧
    (s.grantStep src st).retire = s.retire ∧
    (s.grantStep src st).port = s.port :=
  by unfold State.grantStep; (repeat' split) <;> simp

@[simp] theorem State.perform_frame (s : State) (g : Grant) :
    (s.perform g).pending = s.pending ∧
    (s.perform g).now = s.now ∧
    (s.perform g).resetLow = s.resetLow ∧
    (s.perform g).selLow = s.selLow ∧
    (s.perform g).ctl = s.ctl ∧
    (s.perform g).members = s.members ∧
    (s.perform g).dir = s.dir ∧
    (s.perform g).repl.wants = s.repl.wants ∧
    (s.perform g).repl.fetch = s.repl.fetch ∧
    (s.perform g).line = s.line ∧
    (s.perform g).engine.queue = s.engine.queue ∧
    (s.perform g).engine.sending = s.engine.sending ∧
    (s.perform g).engine.assembly = s.engine.assembly ∧
    (s.perform g).array.freeList = s.array.freeList ∧
    (s.perform g).array.badTable = s.array.badTable ∧
    (s.perform g).array.failure = s.array.failure ∧
    (s.perform g).array.reclaim = s.array.reclaim ∧
    (s.perform g).array.full = s.array.full ∧
    (s.perform g).array.exhausted = s.array.exhausted ∧
    (s.perform g).array.scan = s.array.scan ∧
    (s.perform g).array.erasesLost = s.array.erasesLost ∧
    (s.perform g).port.selected = s.port.selected ∧
    (s.perform g).port.decoder = s.port.decoder ∧
    (s.perform g).port.taken = s.port.taken ∧
    (s.perform g).port.response = s.port.response ∧
    (s.perform g).port.read = s.port.read ∧
    (s.perform g).port.readKey = s.port.readKey ∧
    (s.perform g).port.readBuffer = s.port.readBuffer ∧
    (s.perform g).port.notices = s.port.notices ∧
    (s.perform g).port.overflow = s.port.overflow ∧
    (s.perform g).port.dropped = s.port.dropped ∧
    (s.perform g).port.attn = s.port.attn :=
  by unfold State.perform; (repeat' split) <;> simp

@[simp] theorem State.grant_frame (s : State) :
    s.grant.pending = s.pending ∧
    s.grant.now = s.now ∧
    s.grant.resetLow = s.resetLow ∧
    s.grant.selLow = s.selLow ∧
    s.grant.ctl = s.ctl ∧
    s.grant.members = s.members ∧
    s.grant.dir = s.dir ∧
    s.grant.repl.wants = s.repl.wants ∧
    s.grant.repl.fetch = s.repl.fetch ∧
    s.grant.line = s.line ∧
    s.grant.engine.queue = s.engine.queue ∧
    s.grant.engine.sending = s.engine.sending ∧
    s.grant.engine.assembly = s.engine.assembly ∧
    s.grant.array.freeList = s.array.freeList ∧
    s.grant.array.badTable = s.array.badTable ∧
    s.grant.array.failure = s.array.failure ∧
    s.grant.array.reclaim = s.array.reclaim ∧
    s.grant.array.full = s.array.full ∧
    s.grant.array.exhausted = s.array.exhausted ∧
    s.grant.array.scan = s.array.scan ∧
    s.grant.array.erasesLost = s.array.erasesLost ∧
    s.grant.port.selected = s.port.selected ∧
    s.grant.port.decoder = s.port.decoder ∧
    s.grant.port.taken = s.port.taken ∧
    s.grant.port.response = s.port.response ∧
    s.grant.port.read = s.port.read ∧
    s.grant.port.readKey = s.port.readKey ∧
    s.grant.port.readBuffer = s.port.readBuffer ∧
    s.grant.port.notices = s.port.notices ∧
    s.grant.port.overflow = s.port.overflow ∧
    s.grant.port.dropped = s.port.dropped ∧
    s.grant.port.attn = s.port.attn :=
  by unfold State.grant; (repeat' split) <;> simp

@[simp] theorem State.settleArray_frame (s : State) :
    s.settleArray.pending = s.pending ∧
    s.settleArray.now = s.now ∧
    s.settleArray.resetLow = s.resetLow ∧
    s.settleArray.selLow = s.selLow ∧
    s.settleArray.ctl.stopping = s.ctl.stopping ∧
    s.settleArray.ctl.config = s.ctl.config ∧
    s.settleArray.members.peers = s.members.peers ∧
    s.settleArray.dir.designated = s.dir.designated ∧
    s.settleArray.dir.mark = s.dir.mark ∧
    s.settleArray.line = s.line ∧
    s.settleArray.engine.sending = s.engine.sending ∧
    s.settleArray.engine.assembly = s.engine.assembly ∧
    s.settleArray.array.flash = s.array.flash ∧
    s.settleArray.array.freeList = s.array.freeList ∧
    s.settleArray.array.badTable = s.array.badTable ∧
    s.settleArray.array.nextStamp = s.array.nextStamp ∧
    s.settleArray.array.running = s.array.running ∧
    s.settleArray.array.scan = s.array.scan ∧
    s.settleArray.array.erasesLost = s.array.erasesLost ∧
    s.settleArray.port.selected = s.port.selected ∧
    s.settleArray.port.decoder = s.port.decoder ∧
    s.settleArray.port.taken = s.port.taken ∧
    s.settleArray.port.response = s.port.response ∧
    s.settleArray.port.readKey = s.port.readKey :=
  by unfold State.settleArray; (repeat' split) <;> simp

@[simp] theorem State.settleQueues_frame (s : State) :
    s.settleQueues.pending = s.pending ∧
    s.settleQueues.now = s.now ∧
    s.settleQueues.resetLow = s.resetLow ∧
    s.settleQueues.selLow = s.selLow ∧
    s.settleQueues.ctl = s.ctl ∧
    s.settleQueues.members = s.members ∧
    s.settleQueues.dir = s.dir ∧
    s.settleQueues.repl.publish = s.repl.publish ∧
    s.settleQueues.line = s.line ∧
    s.settleQueues.engine.sending = s.engine.sending ∧
    s.settleQueues.engine.assembly = s.engine.assembly ∧
    s.settleQueues.array = s.array ∧
    s.settleQueues.retire = s.retire ∧
    s.settleQueues.port = s.port :=
  by unfold State.settleQueues; (repeat' split) <;> simp

@[simp] theorem State.settle_frame (s : State) :
    s.settle.pending = s.pending ∧
    s.settle.now = s.now ∧
    s.settle.resetLow = s.resetLow ∧
    s.settle.selLow = s.selLow ∧
    s.settle.ctl.stopping = s.ctl.stopping ∧
    s.settle.ctl.config = s.ctl.config ∧
    s.settle.members.peers = s.members.peers ∧
    s.settle.dir.designated = s.dir.designated ∧
    s.settle.dir.mark = s.dir.mark ∧
    s.settle.line = s.line ∧
    s.settle.engine.sending = s.engine.sending ∧
    s.settle.engine.assembly = s.engine.assembly ∧
    s.settle.array.freeList = s.array.freeList ∧
    s.settle.array.badTable = s.array.badTable ∧
    s.settle.array.scan = s.array.scan ∧
    s.settle.array.erasesLost = s.array.erasesLost ∧
    s.settle.port.selected = s.port.selected ∧
    s.settle.port.decoder = s.port.decoder ∧
    s.settle.port.taken = s.port.taken ∧
    s.settle.port.response = s.port.response ∧
    s.settle.port.readKey = s.port.readKey :=
  by unfold State.settle; (repeat' split) <;> simp

end Sys2Proof.Machine
end

