-- ==== Sys2Proof/Laws/Flash.lean ====
section
/-! SUPPORT. The laws of the flash contents: what a number reads as after each operation, and that every operation keeps the
canonical form (R113, R126, R134). -/

namespace Sys2Proof.Machine

/-! ## The canonical form -/

/-- The canonical form: every number lies below all that follow it. -/
theorem Store.wf_cons (a : Nat) (c : FlashCell) (m : Store) :
    Store.wf ((a, c) :: m) = true ↔ (∀ e ∈ m, a < e.1) ∧ Store.wf m = true := by
  induction m generalizing a c with
  | nil => simp [Store.wf]
  | cons e r ih =>
    obtain ⟨b, d⟩ := e
    simp only [Store.wf, Bool.and_eq_true, decide_eq_true_eq, List.mem_cons, forall_eq_or_imp]
    constructor
    · rintro ⟨h, hr⟩
      exact ⟨⟨h, fun e he => Nat.lt_trans h (((ih b d).1 hr).1 e he)⟩, hr⟩
    · rintro ⟨⟨h, _⟩, hr⟩
      exact ⟨h, hr⟩

/-- Whatever is listed after programming a number is that number, or was listed before. -/
theorem Store.mem_put (m : Store) (a : Nat) (c : FlashCell) : ∀ e ∈ Store.put m a c, e.1 = a ∨ ∃ d ∈ m, d.1 = e.1 := by
  induction m with
  | nil => simp [Store.put]
  | cons x r ih =>
    obtain ⟨b, d⟩ := x
    intro e he
    unfold Store.put at he
    split at he
    · rcases List.mem_cons.1 he with rfl | he
      · exact .inl rfl
      · exact .inr ⟨e, he, rfl⟩
    · split at he
      · rcases List.mem_cons.1 he with rfl | he
        · exact .inl rfl
        · exact .inr ⟨e, List.mem_cons_of_mem _ he, rfl⟩
      · rcases List.mem_cons.1 he with rfl | he
        · exact .inr ⟨_, List.mem_cons_self, rfl⟩
        · rcases ih e he with h | ⟨y, hy, h⟩
          · exact .inl h
          · exact .inr ⟨y, List.mem_cons_of_mem _ hy, h⟩

/-- Programming a number keeps the form. -/
theorem Store.put_wf (m : Store) (a : Nat) (c : FlashCell) (h : m.wf = true) : (Store.put m a c).wf = true := by
  induction m with
  | nil => rfl
  | cons x r ih =>
    obtain ⟨b, d⟩ := x
    have hc := (Store.wf_cons b d r).1 h
    unfold Store.put
    split
    · rename_i hlt
      rw [Store.wf_cons]
      refine ⟨?_, h⟩
      intro e he
      rcases List.mem_cons.1 he with rfl | he
      · exact hlt
      · exact Nat.lt_trans hlt (hc.1 e he)
    · split
      · rename_i heq
        rw [Store.wf_cons]
        exact ⟨fun e he => heq ▸ hc.1 e he, hc.2⟩
      · rw [Store.wf_cons]
        refine ⟨?_, ih hc.2⟩
        intro e he
        rcases Store.mem_put r a c e he with h' | ⟨y, hy, h'⟩
        · rw [h']
          omega
        · rw [← h']
          exact hc.1 y hy

/-- Keeping some numbers keeps the form. -/
theorem Store.keep_wf (m : Store) (p : Nat → Bool) (h : m.wf = true) : (Store.keep m p).wf = true := by
  induction m with
  | nil => rfl
  | cons x r ih =>
    obtain ⟨b, d⟩ := x
    have hc := (Store.wf_cons b d r).1 h
    by_cases hp : p b = true
    · have : Store.keep ((b, d) :: r) p = (b, d) :: Store.keep r p := by simp [Store.keep, hp]
      rw [this, Store.wf_cons]
      exact ⟨fun e he => hc.1 e (List.mem_filter.1 he).1, ih hc.2⟩
    · have : Store.keep ((b, d) :: r) p = Store.keep r p := by simp [Store.keep, hp]
      rw [this]
      exact ih hc.2

/-- Making slots INVALID keeps the form. -/
theorem tearSlots_wf (b : Block) (mask : BitVec 32) (m : Store) (h : m.wf = true) : (tearSlots b mask m).wf = true := by
  unfold tearSlots
  generalize List.range 32 = l
  induction l generalizing m with
  | nil => exact h
  | cons i l ih =>
    rw [List.foldl_cons]
    apply ih
    split
    · exact Store.put_wf _ _ _ h
    · exact h

/-- An erase keeps the form. -/
theorem Flash.erase_law (f : Flash) (b : Block) (h : f.law) : (f.erase b).law :=
  ⟨Store.keep_wf f.slots (fun a => a / 32 != b.val) h.1, Store.keep_wf f.tags (fun a => a != b.val) h.2⟩

/-- An erase cut short keeps the form. -/
theorem Flash.cutErase_law (f : Flash) (b : Block) (n : Nat) (h : f.law) : (f.cutErase b n).law := by
  refine ⟨tearSlots_wf _ _ _ (Flash.erase_law f b h).1, ?_⟩
  unfold Flash.cutErase
  simp only []
  split
  · exact Store.put_wf _ _ _ (Flash.erase_law f b h).2
  · exact (Flash.erase_law f b h).2

/-- An erase that failed keeps the form. -/
theorem Flash.failedErase_law (f : Flash) (b : Block) (n : Nat) (h : f.law) : (f.failedErase b n).law := by
  refine ⟨tearSlots_wf _ _ _ (Store.keep_wf _ _ h.1), ?_⟩
  unfold Flash.failedErase
  simp only []
  split
  · exact h.2
  · exact Store.keep_wf _ _ h.2

/-- Setting a slot keeps the form. -/
theorem State.putSlot_law (s : State) (l : Loc) (c : FlashCell) (h : s.array.flash.law) :
    (s.putSlot l c).array.flash.law := ⟨Store.put_wf _ _ _ h.1, h.2⟩

/-- Setting a tag keeps the form. -/
theorem State.putTag_law (s : State) (b : Block) (c : FlashCell) (h : s.array.flash.law) :
    (s.putTag b c).array.flash.law := ⟨h.1, Store.put_wf _ _ _ h.2⟩

/-- The flash after reset has the form. -/
theorem State.reset_flash_law : State.reset.array.flash.law := ⟨rfl, rfl⟩

/-! ## What a number reads as -/

/-- A number reads as what it was programmed with, and every other number as before. -/
theorem Store.read_put (m : Store) (a x : Nat) (c : FlashCell) :
    (Store.put m a c).read x = if x = a then some c else m.read x := by
  induction m with
  | nil =>
    simp only [Store.put, Store.read]
    by_cases h : x = a
    · simp [h]
    · simp [h, Ne.symm h]
  | cons e r ih =>
    obtain ⟨b, d⟩ := e
    unfold Store.put
    split
    · simp only [Store.read]
      by_cases h : x = a
      · simp [h]
      · simp [h, Ne.symm h]
    · split
      · rename_i heq
        subst heq
        simp only [Store.read]
        by_cases h : x = a
        · simp [h]
        · simp [h, Ne.symm h]
      · rename_i hne
        simp only [Store.read, ih]
        by_cases h : b = x
        · subst h
          simp [Ne.symm hne]
        · simp [h]

/-- A number that is kept reads as before, and one that is not is blank. -/
theorem Store.read_keep (m : Store) (p : Nat → Bool) (x : Nat) :
    (Store.keep m p).read x = if p x = true then m.read x else none := by
  induction m with
  | nil => simp [Store.keep, Store.read]
  | cons e r ih =>
    obtain ⟨b, d⟩ := e
    by_cases hp : p b = true
    · have : Store.keep ((b, d) :: r) p = (b, d) :: Store.keep r p := by simp [Store.keep, hp]
      rw [this]
      simp only [Store.read, ih]
      by_cases h : b = x
      · subst h
        simp [hp]
      · simp [h]
    · have : Store.keep ((b, d) :: r) p = Store.keep r p := by simp [Store.keep, hp]
      rw [this, ih]
      simp only [Store.read]
      by_cases h : b = x
      · subst h
        simp [hp]
      · simp [h]

/-- What a number reads as after some slots of a block have been made INVALID. -/
theorem read_tearSlots (b : Block) (mask : BitVec 32) (m : Store) (x : Nat) :
    (tearSlots b mask m).read x =
      if x / 32 = b.val ∧ mask.getLsbD (x % 32) = true then some .torn else m.read x := by
  have key : ∀ (l : List Nat), (∀ i ∈ l, i < 32) → ∀ m : Store,
      Store.read (l.foldl (fun m i => if mask.getLsbD i then m.put (32 * b.val + i) .torn else m) m) x =
        if x / 32 = b.val ∧ x % 32 ∈ l ∧ mask.getLsbD (x % 32) = true then some .torn else m.read x := by
    intro l
    induction l with
    | nil => simp
    | cons i l ih =>
      intro hl m
      have hi : i < 32 := hl i List.mem_cons_self
      rw [List.foldl_cons, ih fun j hj => hl j (List.mem_cons_of_mem _ hj)]
      by_cases hx : x / 32 = b.val ∧ x % 32 = i
      · obtain ⟨hb, rfl⟩ := hx
        have hn : x = 32 * b.val + x % 32 := by omega
        by_cases hm : mask.getLsbD (x % 32) = true <;> simp [hb, hm, Store.read_put, ← hn]
      · have hn : x ≠ 32 * b.val + i := by omega
        have hr : Store.read (if mask.getLsbD i then m.put (32 * b.val + i) .torn else m) x = m.read x := by
          split <;> simp [Store.read_put, hn]
        rw [hr]
        by_cases hb : x / 32 = b.val
        · have hi' : x % 32 ≠ i := fun h => hx ⟨hb, h⟩
          simp [hi']
        · simp [hb]
  have h := key (List.range 32) (fun i hi => List.mem_range.1 hi) m
  have hx : x % 32 ∈ List.range 32 := List.mem_range.2 (Nat.mod_lt x (by decide))
  simpa [tearSlots, hx] using h

/-- A cut erase leaves one slot INVALID, and one blank (R134). -/
theorem cutEraseMask_mixed (n : Nat) :
    ∃ i j : Slot, (cutEraseMask n).getLsbD i.val = true ∧ (cutEraseMask n).getLsbD j.val = false := by
  refine ⟨Config.cutEraseInvalidSlot n,
    ⟨((Config.cutEraseInvalidSlot n).val + (Config.cutEraseBlankStep n).val + 1) % 32, Nat.mod_lt _ (by decide)⟩, ?_, ?_⟩
  · have h : (Config.cutEraseInvalidSlot n).val ≠
        ((Config.cutEraseInvalidSlot n).val + (Config.cutEraseBlankStep n).val + 1) % 32 := by omega
    have hi := (Config.cutEraseInvalidSlot n).isLt
    simp only [cutEraseMask, BitVec.getLsbD_and, BitVec.getLsbD_or, BitVec.getLsbD_not, BitVec.getLsbD_shiftLeft,
      BitVec.getLsbD_one]
    simp [hi]
    omega
  · simp [cutEraseMask]

/-- What a slot's number and a tag's number read as after a cut erase (R134). -/
theorem Flash.read_cutErase (f : Flash) (b : Block) (n x : Nat) :
    ((f.cutErase b n).slots.read x =
      if x / 32 = b.val then if (cutEraseMask n).getLsbD (x % 32) then some .torn else none else f.slots.read x) ∧
    ((f.cutErase b n).tags.read x =
      if x = b.val then if Config.cutEraseTagInvalid n then some .torn else none else f.tags.read x) := by
  constructor
  · simp only [Flash.cutErase, read_tearSlots, Flash.erase, Store.read_keep]
    by_cases hb : x / 32 = b.val <;> simp [hb]
  · unfold Flash.cutErase
    simp only []
    split
    · simp only [Store.read_put, Flash.erase, Store.read_keep]
      by_cases hb : x = b.val <;> simp [hb]
    · simp only [Flash.erase, Store.read_keep]
      by_cases hb : x = b.val <;> simp [hb]

/-! ## The slot or tag of the running operation is torn -/

/-- With no operation running there is nothing to be torn. -/
theorem State.tornLaw_of_free (s : State) (h : s.array.running = none) : s.tornLaw := by
  intro r hr
  rw [h] at hr
  cases hr

/-- An operation that begins keeps the law when its slot or tag is torn. -/
theorem State.run_tornLaw (s : State) (op : ArrayOp) (h : op.torn s.array.flash) : (s.run op).tornLaw := by
  intro r hr
  cases hr
  exact h

/-- A page program leaves its slot torn from the grant on. -/
theorem State.grantProgram_tornLaw (s : State) (src : Source) (item : ProgItem) (h : s.array.running = none) :
    (s.grantProgram src item).tornLaw := by
  unfold State.grantProgram
  split
  · apply State.run_tornLaw
    simp [ArrayOp.torn, State.putSlot, Store.read_put]
  · exact s.tornLaw_of_free h

/-- A tag program leaves its tag torn from the grant on. -/
theorem State.grantTag_tornLaw (s : State) (src : Source) (b : Block) (reason : StorageReason) :
    (s.grantTag src b reason).tornLaw := by
  unfold State.grantTag
  apply State.run_tornLaw
  simp [ArrayOp.torn, State.putTag, Store.read_put]

end Sys2Proof.Machine
end

