-- ==== Sys2Proof/Laws/Leaves.lean ====
section
/-! SUPPORT. How the smallest operations keep the laws of a safe state: notices, counters, wants, entries and queue. -/

namespace Sys2Proof.Machine

/-! ## Notices (R171) -/

/-- Posting keeps the law of the Notice Queue. -/
theorem State.post_noticesLaw (s : State) (n : Notice) (h : s.port.noticesLaw) : (s.post n).port.noticesLaw := by
  unfold State.post
  split
  · exact h
  · split
    · rename_i hl
      exact ⟨by simp only [List.length_append, List.length_singleton]; omega, by simp⟩
    · exact h

/-- Posting keeps every notice that is queued, in its place. -/
theorem State.post_prefix (s : State) (n : Notice) : s.port.notices <+: (s.post n).port.notices := by
  unfold State.post
  split
  · exact List.prefix_rfl
  · split
    · exact List.prefix_append _ _
    · exact List.prefix_rfl

/-- With room, the notice posted is the next in the queue, whatever later joins it. -/
theorem State.tells_of_post (s t : State) (n : Notice) (hs : s.ctl.stopping = false)
    (h : (s.post n).port.notices <+: t.port.notices) : s.tells t n := by
  intro hl
  obtain ⟨later, hlater⟩ := h
  refine ⟨later, ?_⟩
  rw [← hlater]
  simp [State.post, hs, hl]

/-! ## Counters (R95, R170) -/

/-- Counting keeps every counter in its range. -/
theorem Counters.count_law (c : Counters) (k : Counter) (h : c.law) : (c.count k).law := by
  have hu : ∀ n, countUp n ≤ 65535 := by
    intro n
    unfold countUp
    split <;> omega
  obtain ⟨h1, h2, h3, h4, h5, h6, h7, h8⟩ := h
  cases k <;> (unfold Counters.law Counters.count; simp only [hu]; and_intros <;> first | assumption | trivial)

/-- Subtracting the values returned keeps every counter in its range. -/
theorem Counters.subtract_law (c : Counters) (bs : List Byte) (h : c.law) : (c.subtract bs).law := by
  obtain ⟨h1, h2, h3, h4, h5, h6, h7, h8⟩ := h
  unfold Counters.law Counters.subtract
  simp only []
  omega

/-! ## Keys, wants and entries (R16, R59) -/

/-- Of two keys one comes first. -/
theorem Key.le_total (a b : Key) : a.le b = true ∨ b.le a = true := by
  simp only [Key.le, Bool.or_eq_true, Bool.and_eq_true, decide_eq_true_eq, beq_iff_eq]
  omega

/-- The order of keys passes on. -/
theorem Key.before_trans {a b c : Key} (h : a.before b) (k : b.before c) : a.before c := by
  obtain ⟨⟨ao, av⟩, as⟩ := a
  obtain ⟨⟨bo, bv⟩, bs⟩ := b
  obtain ⟨⟨co, cv⟩, cs⟩ := c
  simp only [Key.before, Key.le, Bool.or_eq_true, Bool.and_eq_true, decide_eq_true_eq, beq_iff_eq, ne_eq, Key.mk.injEq,
    Fin.mk.injEq] at *
  omega

/-- The members of the wants with one more. -/
theorem mem_insertWant (w v : Want) (ws : List Want) : v ∈ insertWant w ws ↔ v = w ∨ v ∈ ws := by
  induction ws with
  | nil => simp [insertWant]
  | cons x r ih =>
    unfold insertWant
    split
    · simp
    · simp only [List.mem_cons, ih]
      exact or_left_comm

/-- A want of a new key is inserted at its place in the order, and the list grows by one. -/
theorem insertWant_law (w : Want) (ws : List Want) (h : ws.Pairwise fun v x => Key.before v.key x.key)
    (hn : ∀ v ∈ ws, v.key ≠ w.key) :
    (insertWant w ws).Pairwise (fun v x => Key.before v.key x.key) ∧ (insertWant w ws).length = ws.length + 1 := by
  induction ws with
  | nil => simp [insertWant]
  | cons x r ih =>
    have hx := List.pairwise_cons.1 h
    have hr := ih hx.2 fun v hv => hn v (List.mem_cons_of_mem _ hv)
    unfold insertWant
    split
    · rename_i hle
      have hb : Key.before w.key x.key := ⟨hle, fun e => hn x List.mem_cons_self e.symm⟩
      refine ⟨List.pairwise_cons.2 ⟨?_, h⟩, by simp⟩
      intro v hv
      rcases List.mem_cons.1 hv with rfl | hv
      · exact hb
      · exact Key.before_trans hb (hx.1 v hv)
    · rename_i hle
      refine ⟨List.pairwise_cons.2 ⟨?_, hr.1⟩, by simp [hr.2]⟩
      intro v hv
      rcases (mem_insertWant w v r).1 hv with rfl | hv
      · exact ⟨(Key.le_total _ _).resolve_left hle, hn x List.mem_cons_self⟩
      · exact hx.1 v hv

/-- The fill keeps the law of the Want List. -/
theorem fillKeys_law (entries : List Entry) (o : Station) (n q : Nat) (ws : List Want) (h : wantsLaw ws) :
    wantsLaw (fillKeys entries o n q ws) := by
  induction n generalizing q ws with
  | zero => exact h
  | succ n ih =>
    unfold fillKeys
    split
    · exact h
    · rename_i hl
      apply ih
      split
      · exact h
      · rename_i hn
        simp only [Bool.or_eq_true, not_or, Bool.not_eq_true, List.any_eq_false, beq_iff_eq] at hn
        have := insertWant_law ⟨⟨o, q⟩, .idle, 0, none⟩ ws h.2 hn.2
        exact ⟨by rw [this.2]; omega, this.1⟩

/-- The fill of an origin keeps the law of the Want List (R60). -/
theorem State.fill_wantsLaw (s : State) (o : Station) (h : wantsLaw s.repl.wants) : wantsLaw (s.fill o).repl.wants := by
  unfold State.fill
  split
  · exact fillKeys_law _ _ _ _ _ h
  · exact h

/-- The members of the entries with one more. -/
theorem mem_insertEntry (e d : Entry) (es : List Entry) : d ∈ insertEntry e es ↔ d = e ∨ d ∈ es := by
  induction es with
  | nil => simp [insertEntry]
  | cons x r ih =>
    unfold insertEntry
    split
    · simp
    · simp only [List.mem_cons, ih]
      exact or_left_comm

/-- An entry of a new key is inserted at its place in the order. -/
theorem insertEntry_sorted (e : Entry) (es : List Entry) (h : es.Pairwise fun a b => Key.before a.key b.key)
    (hn : ∀ d ∈ es, d.key ≠ e.key) : (insertEntry e es).Pairwise fun a b => Key.before a.key b.key := by
  induction es with
  | nil => simp [insertEntry]
  | cons x r ih =>
    have hx := List.pairwise_cons.1 h
    have hr := ih hx.2 fun v hv => hn v (List.mem_cons_of_mem _ hv)
    unfold insertEntry
    split
    · rename_i hle
      have hb : Key.before e.key x.key := ⟨hle, fun k => hn x List.mem_cons_self k.symm⟩
      refine List.pairwise_cons.2 ⟨?_, h⟩
      intro v hv
      rcases List.mem_cons.1 hv with rfl | hv
      · exact hb
      · exact Key.before_trans hb (hx.1 v hv)
    · rename_i hle
      refine List.pairwise_cons.2 ⟨?_, hr⟩
      intro v hv
      rcases (mem_insertEntry e v r).1 hv with rfl | hv
      · exact ⟨(Key.le_total _ _).resolve_left hle, hn x List.mem_cons_self⟩
      · exact hx.1 v hv

/-- The run of present entries reaches no lower than where it starts (R8). -/
theorem le_runHeld (entries : List Entry) (o : Station) (n h : Nat) : h ≤ runHeld entries o n h := by
  induction n generalizing h with
  | zero => exact Nat.le_refl h
  | succ n ih =>
    unfold runHeld
    split
    · exact Nat.le_trans (Nat.le_succ h) (ih (h + 1))
    · exact Nat.le_refl h

/-! ## The Transmit Queue (R103) -/

/-- One more entry raises the count of its kind by one, and of no other. -/
theorem kindCount_insertTx (e : TxEntry) (q : List TxEntry) (k : FrameKind) :
    kindCount (insertTx e q) k = kindCount q k + if targetKind e.target = k then 1 else 0 := by
  induction q with
  | nil => by_cases h : targetKind e.target = k <;> simp [insertTx, kindCount, h]
  | cons d r ih =>
    unfold insertTx
    split
    · by_cases h : targetKind e.target = k <;> simp [kindCount, h]
    · by_cases hd : targetKind d.target = k
      · simp only [kindCount, List.filter_cons, hd, beq_self_eq_true, if_true, List.length_cons] at ih ⊢
        omega
      · have hb : (targetKind d.target == k) = false := by simpa using hd
        simp only [kindCount, List.filter_cons, hb, Bool.false_eq_true, if_false] at ih ⊢
        exact ih

/-- Removing entries raises no count. -/
theorem kindCount_filter (q : List TxEntry) (p : TxEntry → Bool) (k : FrameKind) : kindCount (q.filter p) k ≤ kindCount q k := by
  unfold kindCount
  rw [List.filter_filter, ← List.countP_eq_length_filter, ← List.countP_eq_length_filter]
  apply List.countP_mono_left
  intro e _ h
  exact (Bool.and_eq_true _ _ ▸ h).1

end Sys2Proof.Machine
end

