-- ==== Sys2Proof/WellFormed.lean ====
section
/-! DEFINITION. Which commands are well formed: operands that the rule of their row allows. -/

namespace Sys2Proof

/-- A key whose seq is that of a page (R1). -/
def Key.wellFormed (k : Key) : Bool := 1 ≤ k.seq && k.seq ≤ Machine.seqMax

/-- A target that a Transmit Queue entry can have (R103): a page key, or a WANT of 1 to 8 keys (R97). -/
def TxTarget.wellFormed : TxTarget → Bool
  | .beacon => true
  | .page k => k.wellFormed
  | .repair k => k.wellFormed
  | .want _ first count => 1 ≤ first && first ≤ Machine.seqMax && 1 ≤ count && count ≤ 8

/-- A PUBLISH carries as many payload bytes as its length says, or none when the length is 0 or above 256 (R173). -/
def publishWellFormed (length : Nat) (payload : List Byte) : Bool :=
  if Machine.lengthGood length then payload.length == length else payload.isEmpty

/-- Whether a command is well formed. -/
def Instr.wellFormed : Instr → Bool
  | .selectFallCmdDiscard bytes => !Machine.commandTaken bytes
  | .badCmd code => !Machine.commandCodes.contains code
  | .publish length payload => publishWellFormed length.toNat payload
  | .configure record => record.length == 7
  | .symbolError fault => Machine.isSymbolError fault
  | .strayLow width => Machine.isStray width
  | .frameStart _ width => Machine.classifyLow width == .start
  | .dataBit gap width => Machine.isGap gap && (Machine.lowBit? width).isSome
  | .earliestStartPasses target => target.wellFormed
  | .wantDeadline k => k.wellFormed
  | .stalledReaskDue k => k.wellFormed
  | .ackSlotSampling slot low => 1 ≤ slot && slot ≤ 6 && low ≤ 48
  | .powerOn | .resetLow | .resetRise | .stoppingEnd | .configurationReadEnd _ | .configurationWriteEnd _
  | .scanHeaderReadEnd _ | .scanMarkReadEnd _ | .selectRise | .responseClockedOut | .status | .notice | .counts
  | .peer _ | .origin _ | .read _ _ | .take | .retire _ | .restart | .frameEndGap | .recoveryPeriodEnd | .lineBreak
  | .lineStuck | .lineStuckClear | .startMoment _ | .arbitrationLoss | .collision | .sentToEnd | .ackPulse
  | .ackPulseEnd | .ackWindowEnd | .breakEnd | .silenceTimeout _ | .beaconTimerExpiry | .listeningEnd | .joinLimit
  | .fetchDeadline | .pageReadEnd _ | .pageProgramEnd _ | .tagProgramEnd _ | .eraseEnd _ | .driveNextSymbol => true

end Sys2Proof
end

