-- ==== Sys2Proof/Laws/PerInstr.lean ====
section
/-! SUPPORT. What holds of every command as syntax, one lemma for each constructor: a well-formed command of the port is
one that the decoder takes with just its bytes (R165, R173), and none of these ends a run. -/

namespace Sys2Proof.Laws.Shape

open Sys2Proof.Machine

/-- The bytes of a well-formed command of the port are a command that is taken, and such a command ends no run. -/
def Statement (i : Instr) : Prop :=
  i.wellFormed = true → ∀ code args, i.hostBytes? = some (code, args) →
    commandTaken (code :: args) = true ∧ i.endsRun = false

theorem notHost {i : Instr} (h : i.hostBytes? = none) : Statement i := by
  intro _ code args e
  rw [h] at e
  cases e

theorem powerOn : Statement .powerOn := notHost rfl

theorem resetLow : Statement .resetLow := notHost rfl

theorem resetRise : Statement .resetRise := notHost rfl

theorem stoppingEnd : Statement .stoppingEnd := notHost rfl

theorem configurationReadEnd (errors : Nat) : Statement (.configurationReadEnd errors) := notHost rfl

theorem configurationWriteEnd (ok : Bool) : Statement (.configurationWriteEnd ok) := notHost rfl

theorem scanHeaderReadEnd (disturbed : Bool) : Statement (.scanHeaderReadEnd disturbed) := notHost rfl

theorem scanMarkReadEnd (errors : Nat) : Statement (.scanMarkReadEnd errors) := notHost rfl

theorem selectFallCmdDiscard (bytes : List Byte) : Statement (.selectFallCmdDiscard bytes) := notHost rfl

theorem selectRise : Statement .selectRise := notHost rfl

theorem responseClockedOut : Statement .responseClockedOut := notHost rfl

theorem badCmd (code : Byte) : Statement (.badCmd code) := by
  intro h c args e
  simp only [Instr.wellFormed, Bool.not_eq_true'] at h
  simp only [Instr.hostBytes?, h, Bool.false_eq_true, if_false, Option.some.injEq, Prod.mk.injEq] at e
  obtain ⟨rfl, rfl⟩ := e
  have hp : code ≠ codePublish := by rintro rfl; revert h; decide
  simp only [commandTaken, hp, h, if_false, Bool.false_eq_true, Instr.endsRun, and_self]

theorem status : Statement .status := by
  intro _ c args e
  simp only [Instr.hostBytes?, Option.some.injEq, Prod.mk.injEq] at e
  obtain ⟨rfl, rfl⟩ := e
  exact ⟨rfl, rfl⟩

theorem notice : Statement .notice := by
  intro _ c args e
  simp only [Instr.hostBytes?, Option.some.injEq, Prod.mk.injEq] at e
  obtain ⟨rfl, rfl⟩ := e
  exact ⟨rfl, rfl⟩

theorem counts : Statement .counts := by
  intro _ c args e
  simp only [Instr.hostBytes?, Option.some.injEq, Prod.mk.injEq] at e
  obtain ⟨rfl, rfl⟩ := e
  exact ⟨rfl, rfl⟩

theorem peer (n : Byte) : Statement (.peer n) := by
  intro _ c args e
  simp only [Instr.hostBytes?, Option.some.injEq, Prod.mk.injEq] at e
  obtain ⟨rfl, rfl⟩ := e
  exact ⟨rfl, rfl⟩

theorem origin (n : Byte) : Statement (.origin n) := by
  intro _ c args e
  simp only [Instr.hostBytes?, Option.some.injEq, Prod.mk.injEq] at e
  obtain ⟨rfl, rfl⟩ := e
  exact ⟨rfl, rfl⟩

theorem publish (length : BitVec 16) (payload : List Byte) : Statement (.publish length payload) := by
  intro h c args e
  simp only [Instr.hostBytes?, Option.some.injEq, Prod.mk.injEq] at e
  obtain ⟨rfl, rfl⟩ := e
  have hw : ∀ l, word2At (bytes2 length.toNat ++ l) 0 = length.toNat := by
    intro l
    have := length.isLt
    simp [word2At, byteAt, bytes2, byte]
    omega
  refine ⟨?_, rfl⟩
  simp only [commandTaken, if_true, hw]
  simp only [Instr.wellFormed, publishWellFormed] at h
  split at h
  · simp_all [bytes2]
    omega
  · simp_all [bytes2]

theorem read (o : Byte) (seq : BitVec 24) : Statement (.read o seq) := by
  intro _ c args e
  simp only [Instr.hostBytes?, Option.some.injEq, Prod.mk.injEq] at e
  obtain ⟨rfl, rfl⟩ := e
  exact ⟨rfl, rfl⟩

theorem take : Statement .take := by
  intro _ c args e
  simp only [Instr.hostBytes?, Option.some.injEq, Prod.mk.injEq] at e
  obtain ⟨rfl, rfl⟩ := e
  exact ⟨rfl, rfl⟩

theorem retire (floor : BitVec 24) : Statement (.retire floor) := by
  intro _ c args e
  simp only [Instr.hostBytes?, Option.some.injEq, Prod.mk.injEq] at e
  obtain ⟨rfl, rfl⟩ := e
  exact ⟨rfl, rfl⟩

theorem configure (record : List Byte) : Statement (.configure record) := by
  intro h c args e
  simp only [Instr.wellFormed, beq_iff_eq] at h
  simp only [Instr.hostBytes?, h, if_true, Option.some.injEq, Prod.mk.injEq] at e
  obtain ⟨rfl, rfl⟩ := e
  refine ⟨?_, rfl⟩
  have hp : codeConfigure ≠ codePublish := by decide
  have hc : commandCodes.contains codeConfigure = true := by decide
  have ha : argumentCount codeConfigure = 7 := by decide
  simp only [commandTaken, hp, hc, ha, h, if_false, if_true]
  decide

theorem restart : Statement .restart := by
  intro _ c args e
  simp only [Instr.hostBytes?, Option.some.injEq, Prod.mk.injEq] at e
  obtain ⟨rfl, rfl⟩ := e
  exact ⟨rfl, rfl⟩

theorem frameEndGap : Statement .frameEndGap := notHost rfl

theorem symbolError (fault : SymbolFault) : Statement (.symbolError fault) := notHost rfl

theorem strayLow (width : Nat) : Statement (.strayLow width) := notHost rfl

theorem frameStart (high width : Nat) : Statement (.frameStart high width) := notHost rfl

theorem recoveryPeriodEnd : Statement .recoveryPeriodEnd := notHost rfl

theorem lineBreak : Statement .lineBreak := notHost rfl

theorem lineStuck : Statement .lineStuck := notHost rfl

theorem lineStuckClear : Statement .lineStuckClear := notHost rfl

theorem startMoment (fallen : Nat) : Statement (.startMoment fallen) := notHost rfl

theorem arbitrationLoss : Statement .arbitrationLoss := notHost rfl

theorem collision : Statement .collision := notHost rfl

theorem sentToEnd : Statement .sentToEnd := notHost rfl

theorem ackPulse : Statement .ackPulse := notHost rfl

theorem ackPulseEnd : Statement .ackPulseEnd := notHost rfl

theorem ackWindowEnd : Statement .ackWindowEnd := notHost rfl

theorem breakEnd : Statement .breakEnd := notHost rfl

theorem earliestStartPasses (target : TxTarget) : Statement (.earliestStartPasses target) := notHost rfl

theorem silenceTimeout (p : Station) : Statement (.silenceTimeout p) := notHost rfl

theorem beaconTimerExpiry : Statement .beaconTimerExpiry := notHost rfl

theorem listeningEnd : Statement .listeningEnd := notHost rfl

theorem joinLimit : Statement .joinLimit := notHost rfl

theorem wantDeadline (k : Key) : Statement (.wantDeadline k) := notHost rfl

theorem stalledReaskDue (k : Key) : Statement (.stalledReaskDue k) := notHost rfl

theorem fetchDeadline : Statement .fetchDeadline := notHost rfl

theorem pageReadEnd (errors : Nat) : Statement (.pageReadEnd errors) := notHost rfl

theorem pageProgramEnd (ok : Bool) : Statement (.pageProgramEnd ok) := notHost rfl

theorem tagProgramEnd (ok : Bool) : Statement (.tagProgramEnd ok) := notHost rfl

theorem eraseEnd (ok : Bool) : Statement (.eraseEnd ok) := notHost rfl

theorem dataBit (gap width : Nat) : Statement (.dataBit gap width) := notHost rfl

theorem driveNextSymbol : Statement .driveNextSymbol := notHost rfl

theorem ackSlotSampling (slot low : Nat) : Statement (.ackSlotSampling slot low) := notHost rfl

end Sys2Proof.Laws.Shape
end

