-- ==== Sys2Proof/Laws/Steps.lean ====
section
/-! SUPPORT. What each operation of the command families keeps. -/

namespace Sys2Proof.Machine

set_option linter.unusedSimpArgs false

@[simp] theorem State.takeRecord_frame (s : State) (c : ConfigRecord) :
    (s.takeRecord c).ctl.stopping = s.ctl.stopping ∧
    (s.takeRecord c).members.beaconTimer = s.members.beaconTimer ∧
    (s.takeRecord c).repl.publish = s.repl.publish ∧
    (s.takeRecord c).repl.landing = s.repl.landing ∧
    (s.takeRecord c).repl.wants = s.repl.wants ∧
    (s.takeRecord c).repl.fetch = s.repl.fetch ∧
    (s.takeRecord c).engine.queue = s.engine.queue ∧
    (s.takeRecord c).engine.sending = s.engine.sending ∧
    (s.takeRecord c).engine.staging = s.engine.staging ∧
    (s.takeRecord c).engine.assembly = s.engine.assembly ∧
    (s.takeRecord c).array.flash = s.array.flash ∧
    (s.takeRecord c).array.blocks = s.array.blocks ∧
    (s.takeRecord c).array.freeList = s.array.freeList ∧
    (s.takeRecord c).array.badTable = s.array.badTable ∧
    (s.takeRecord c).array.nextStamp = s.array.nextStamp ∧
    (s.takeRecord c).array.failure = s.array.failure ∧
    (s.takeRecord c).array.reclaim = s.array.reclaim ∧
    (s.takeRecord c).array.full = s.array.full ∧
    (s.takeRecord c).array.exhausted = s.array.exhausted ∧
    (s.takeRecord c).array.erasesLost = s.array.erasesLost ∧
    (s.takeRecord c).port.selected = s.port.selected ∧
    (s.takeRecord c).port.decoder = s.port.decoder ∧
    (s.takeRecord c).port.taken = s.port.taken ∧
    (s.takeRecord c).port.response = s.port.response ∧
    (s.takeRecord c).port.read = s.port.read ∧
    (s.takeRecord c).port.readKey = s.port.readKey ∧
    (s.takeRecord c).port.readRequested = s.port.readRequested ∧
    (s.takeRecord c).port.readBuffer = s.port.readBuffer :=
  by unfold State.takeRecord; (repeat' split) <;> simp

@[simp] theorem State.configurationRead_frame (s : State) (errors : Nat) :
    (s.configurationRead errors).ctl.stopping = s.ctl.stopping ∧
    (s.configurationRead errors).members.beaconTimer = s.members.beaconTimer ∧
    (s.configurationRead errors).repl.publish = s.repl.publish ∧
    (s.configurationRead errors).repl.landing = s.repl.landing ∧
    (s.configurationRead errors).repl.wants = s.repl.wants ∧
    (s.configurationRead errors).repl.fetch = s.repl.fetch ∧
    (s.configurationRead errors).engine.queue = s.engine.queue ∧
    (s.configurationRead errors).engine.sending = s.engine.sending ∧
    (s.configurationRead errors).engine.staging = s.engine.staging ∧
    (s.configurationRead errors).engine.assembly = s.engine.assembly ∧
    (s.configurationRead errors).array.flash = s.array.flash ∧
    (s.configurationRead errors).array.blocks = s.array.blocks ∧
    (s.configurationRead errors).array.freeList = s.array.freeList ∧
    (s.configurationRead errors).array.badTable = s.array.badTable ∧
    (s.configurationRead errors).array.nextStamp = s.array.nextStamp ∧
    (s.configurationRead errors).array.failure = s.array.failure ∧
    (s.configurationRead errors).array.reclaim = s.array.reclaim ∧
    (s.configurationRead errors).array.full = s.array.full ∧
    (s.configurationRead errors).array.exhausted = s.array.exhausted ∧
    (s.configurationRead errors).array.erasesLost = s.array.erasesLost ∧
    (s.configurationRead errors).port.selected = s.port.selected ∧
    (s.configurationRead errors).port.decoder = s.port.decoder ∧
    (s.configurationRead errors).port.taken = s.port.taken ∧
    (s.configurationRead errors).port.response = s.port.response ∧
    (s.configurationRead errors).port.read = s.port.read ∧
    (s.configurationRead errors).port.readKey = s.port.readKey ∧
    (s.configurationRead errors).port.readRequested = s.port.readRequested ∧
    (s.configurationRead errors).port.readBuffer = s.port.readBuffer :=
  by unfold State.configurationRead; (repeat' split) <;> simp

@[simp] theorem State.configurationWritten_frame (s : State) (slot : Slot) (record : List Byte) (ok : Bool) :
    (s.configurationWritten slot record ok).pending = s.pending ∧
    (s.configurationWritten slot record ok).now = s.now ∧
    (s.configurationWritten slot record ok).resetLow = s.resetLow ∧
    (s.configurationWritten slot record ok).selLow = s.selLow ∧
    (s.configurationWritten slot record ok).ctl.state = s.ctl.state ∧
    (s.configurationWritten slot record ok).ctl.config = s.ctl.config ∧
    (s.configurationWritten slot record ok).ctl.since = s.ctl.since ∧
    (s.configurationWritten slot record ok).members = s.members ∧
    (s.configurationWritten slot record ok).dir = s.dir ∧
    (s.configurationWritten slot record ok).repl = s.repl ∧
    (s.configurationWritten slot record ok).engine.assembly = s.engine.assembly ∧
    (s.configurationWritten slot record ok).array.blocks = s.array.blocks ∧
    (s.configurationWritten slot record ok).array.freeList = s.array.freeList ∧
    (s.configurationWritten slot record ok).array.badTable = s.array.badTable ∧
    (s.configurationWritten slot record ok).array.nextStamp = s.array.nextStamp ∧
    (s.configurationWritten slot record ok).array.running = s.array.running ∧
    (s.configurationWritten slot record ok).array.failure = s.array.failure ∧
    (s.configurationWritten slot record ok).array.reclaim = s.array.reclaim ∧
    (s.configurationWritten slot record ok).array.full = s.array.full ∧
    (s.configurationWritten slot record ok).array.exhausted = s.array.exhausted ∧
    (s.configurationWritten slot record ok).array.scan = s.array.scan ∧
    (s.configurationWritten slot record ok).array.erasesLost = s.array.erasesLost ∧
    (s.configurationWritten slot record ok).retire = s.retire ∧
    (s.configurationWritten slot record ok).port.selected = s.port.selected ∧
    (s.configurationWritten slot record ok).port.decoder = s.port.decoder ∧
    (s.configurationWritten slot record ok).port.taken = s.port.taken ∧
    (s.configurationWritten slot record ok).port.response = s.port.response ∧
    (s.configurationWritten slot record ok).port.read = s.port.read ∧
    (s.configurationWritten slot record ok).port.readKey = s.port.readKey ∧
    (s.configurationWritten slot record ok).port.readRequested = s.port.readRequested ∧
    (s.configurationWritten slot record ok).port.readBuffer = s.port.readBuffer :=
  by unfold State.configurationWritten; simp; (repeat' split) <;> simp

@[simp] theorem State.setScan_frame (s : State) (f : Scan → Scan) :
    (s.setScan f).pending = s.pending ∧
    (s.setScan f).now = s.now ∧
    (s.setScan f).resetLow = s.resetLow ∧
    (s.setScan f).selLow = s.selLow ∧
    (s.setScan f).ctl = s.ctl ∧
    (s.setScan f).members = s.members ∧
    (s.setScan f).dir = s.dir ∧
    (s.setScan f).repl = s.repl ∧
    (s.setScan f).line = s.line ∧
    (s.setScan f).engine = s.engine ∧
    (s.setScan f).array.flash = s.array.flash ∧
    (s.setScan f).array.blocks = s.array.blocks ∧
    (s.setScan f).array.freeList = s.array.freeList ∧
    (s.setScan f).array.badTable = s.array.badTable ∧
    (s.setScan f).array.nextStamp = s.array.nextStamp ∧
    (s.setScan f).array.running = s.array.running ∧
    (s.setScan f).array.failure = s.array.failure ∧
    (s.setScan f).array.reclaim = s.array.reclaim ∧
    (s.setScan f).array.full = s.array.full ∧
    (s.setScan f).array.exhausted = s.array.exhausted ∧
    (s.setScan f).array.erasesLost = s.array.erasesLost ∧
    (s.setScan f).retire = s.retire ∧
    (s.setScan f).port = s.port :=
  ⟨rfl, rfl, rfl, rfl, rfl, rfl, rfl, rfl, rfl, rfl, rfl, rfl, rfl, rfl, rfl, rfl, rfl, rfl, rfl, rfl, rfl, rfl, rfl⟩

@[simp] theorem State.scanBad_frame (s : State) (b : Block) (stamp : Nat) :
    (s.scanBad b stamp).pending = s.pending ∧
    (s.scanBad b stamp).now = s.now ∧
    (s.scanBad b stamp).resetLow = s.resetLow ∧
    (s.scanBad b stamp).selLow = s.selLow ∧
    (s.scanBad b stamp).ctl = s.ctl ∧
    (s.scanBad b stamp).members = s.members ∧
    (s.scanBad b stamp).dir = s.dir ∧
    (s.scanBad b stamp).repl = s.repl ∧
    (s.scanBad b stamp).line = s.line ∧
    (s.scanBad b stamp).engine = s.engine ∧
    (s.scanBad b stamp).array.flash = s.array.flash ∧
    (s.scanBad b stamp).array.freeList = s.array.freeList ∧
    (s.scanBad b stamp).array.nextStamp = s.array.nextStamp ∧
    (s.scanBad b stamp).array.running = s.array.running ∧
    (s.scanBad b stamp).array.failure = s.array.failure ∧
    (s.scanBad b stamp).array.reclaim = s.array.reclaim ∧
    (s.scanBad b stamp).array.full = s.array.full ∧
    (s.scanBad b stamp).array.exhausted = s.array.exhausted ∧
    (s.scanBad b stamp).array.erasesLost = s.array.erasesLost ∧
    (s.scanBad b stamp).retire = s.retire ∧
    (s.scanBad b stamp).port = s.port :=
  by unfold State.scanBad; simp; (repeat' split) <;> simp

@[simp] theorem State.scanSlots_frame (s : State) (b : Block) (tagInvalid : Bool) :
    (s.scanSlots b tagInvalid).pending = s.pending ∧
    (s.scanSlots b tagInvalid).now = s.now ∧
    (s.scanSlots b tagInvalid).resetLow = s.resetLow ∧
    (s.scanSlots b tagInvalid).selLow = s.selLow ∧
    (s.scanSlots b tagInvalid).ctl = s.ctl ∧
    (s.scanSlots b tagInvalid).members = s.members ∧
    (s.scanSlots b tagInvalid).dir = s.dir ∧
    (s.scanSlots b tagInvalid).repl = s.repl ∧
    (s.scanSlots b tagInvalid).line = s.line ∧
    (s.scanSlots b tagInvalid).engine = s.engine ∧
    (s.scanSlots b tagInvalid).array.flash = s.array.flash ∧
    (s.scanSlots b tagInvalid).array.blocks = s.array.blocks ∧
    (s.scanSlots b tagInvalid).array.freeList = s.array.freeList ∧
    (s.scanSlots b tagInvalid).array.badTable = s.array.badTable ∧
    (s.scanSlots b tagInvalid).array.nextStamp = s.array.nextStamp ∧
    (s.scanSlots b tagInvalid).array.failure = s.array.failure ∧
    (s.scanSlots b tagInvalid).array.reclaim = s.array.reclaim ∧
    (s.scanSlots b tagInvalid).array.full = s.array.full ∧
    (s.scanSlots b tagInvalid).array.exhausted = s.array.exhausted ∧
    (s.scanSlots b tagInvalid).array.erasesLost = s.array.erasesLost ∧
    (s.scanSlots b tagInvalid).retire = s.retire ∧
    (s.scanSlots b tagInvalid).port = s.port :=
  ⟨rfl, rfl, rfl, rfl, rfl, rfl, rfl, rfl, rfl, rfl, rfl, rfl, rfl, rfl, rfl, rfl, rfl, rfl, rfl, rfl, rfl, rfl⟩

@[simp] theorem State.noteSlot_frame (s : State) (l : Loc) (r : HeaderRead) :
    (s.noteSlot l r).pending = s.pending ∧
    (s.noteSlot l r).now = s.now ∧
    (s.noteSlot l r).resetLow = s.resetLow ∧
    (s.noteSlot l r).selLow = s.selLow ∧
    (s.noteSlot l r).ctl = s.ctl ∧
    (s.noteSlot l r).members = s.members ∧
    (s.noteSlot l r).dir = s.dir ∧
    (s.noteSlot l r).repl = s.repl ∧
    (s.noteSlot l r).line = s.line ∧
    (s.noteSlot l r).engine = s.engine ∧
    (s.noteSlot l r).array.flash = s.array.flash ∧
    (s.noteSlot l r).array.blocks = s.array.blocks ∧
    (s.noteSlot l r).array.freeList = s.array.freeList ∧
    (s.noteSlot l r).array.badTable = s.array.badTable ∧
    (s.noteSlot l r).array.nextStamp = s.array.nextStamp ∧
    (s.noteSlot l r).array.running = s.array.running ∧
    (s.noteSlot l r).array.failure = s.array.failure ∧
    (s.noteSlot l r).array.reclaim = s.array.reclaim ∧
    (s.noteSlot l r).array.full = s.array.full ∧
    (s.noteSlot l r).array.exhausted = s.array.exhausted ∧
    (s.noteSlot l r).array.erasesLost = s.array.erasesLost ∧
    (s.noteSlot l r).retire = s.retire ∧
    (s.noteSlot l r).port = s.port :=
  by unfold State.noteSlot; (repeat' split) <;> simp

@[simp] theorem State.keepSlot_frame (s : State) (l : Loc) (h : PageHeader) (role : Role) :
    (s.keepSlot l h role).pending = s.pending ∧
    (s.keepSlot l h role).now = s.now ∧
    (s.keepSlot l h role).resetLow = s.resetLow ∧
    (s.keepSlot l h role).selLow = s.selLow ∧
    (s.keepSlot l h role).ctl = s.ctl ∧
    (s.keepSlot l h role).members = s.members ∧
    (s.keepSlot l h role).dir.designated = s.dir.designated ∧
    (s.keepSlot l h role).dir.mark = s.dir.mark ∧
    (s.keepSlot l h role).repl.publish = s.repl.publish ∧
    (s.keepSlot l h role).repl.landing = s.repl.landing ∧
    (s.keepSlot l h role).repl.fetch = s.repl.fetch ∧
    (s.keepSlot l h role).line = s.line ∧
    (s.keepSlot l h role).engine = s.engine ∧
    (s.keepSlot l h role).array.flash = s.array.flash ∧
    (s.keepSlot l h role).array.freeList = s.array.freeList ∧
    (s.keepSlot l h role).array.badTable = s.array.badTable ∧
    (s.keepSlot l h role).array.nextStamp = s.array.nextStamp ∧
    (s.keepSlot l h role).array.running = s.array.running ∧
    (s.keepSlot l h role).array.failure = s.array.failure ∧
    (s.keepSlot l h role).array.reclaim = s.array.reclaim ∧
    (s.keepSlot l h role).array.full = s.array.full ∧
    (s.keepSlot l h role).array.exhausted = s.array.exhausted ∧
    (s.keepSlot l h role).array.scan = s.array.scan ∧
    (s.keepSlot l h role).array.erasesLost = s.array.erasesLost ∧
    (s.keepSlot l h role).retire = s.retire ∧
    (s.keepSlot l h role).port = s.port :=
  by unfold State.keepSlot; simp; (repeat' split) <;> simp

@[simp] theorem State.judgeSlot_frame (s : State) (l : Loc) (h : PageHeader) :
    (s.judgeSlot l h).pending = s.pending ∧
    (s.judgeSlot l h).now = s.now ∧
    (s.judgeSlot l h).resetLow = s.resetLow ∧
    (s.judgeSlot l h).selLow = s.selLow ∧
    (s.judgeSlot l h).ctl = s.ctl ∧
    (s.judgeSlot l h).members = s.members ∧
    (s.judgeSlot l h).dir.designated = s.dir.designated ∧
    (s.judgeSlot l h).dir.mark = s.dir.mark ∧
    (s.judgeSlot l h).repl.publish = s.repl.publish ∧
    (s.judgeSlot l h).repl.landing = s.repl.landing ∧
    (s.judgeSlot l h).repl.fetch = s.repl.fetch ∧
    (s.judgeSlot l h).line = s.line ∧
    (s.judgeSlot l h).engine = s.engine ∧
    (s.judgeSlot l h).array.flash = s.array.flash ∧
    (s.judgeSlot l h).array.freeList = s.array.freeList ∧
    (s.judgeSlot l h).array.badTable = s.array.badTable ∧
    (s.judgeSlot l h).array.nextStamp = s.array.nextStamp ∧
    (s.judgeSlot l h).array.running = s.array.running ∧
    (s.judgeSlot l h).array.failure = s.array.failure ∧
    (s.judgeSlot l h).array.reclaim = s.array.reclaim ∧
    (s.judgeSlot l h).array.full = s.array.full ∧
    (s.judgeSlot l h).array.exhausted = s.array.exhausted ∧
    (s.judgeSlot l h).array.erasesLost = s.array.erasesLost ∧
    (s.judgeSlot l h).retire = s.retire ∧
    (s.judgeSlot l h).port = s.port :=
  by unfold State.judgeSlot; (repeat' split) <;> simp

@[simp] theorem State.classify_frame (s : State) (b : Block) (c : Scan) :
    (s.classify b c).pending = s.pending ∧
    (s.classify b c).now = s.now ∧
    (s.classify b c).resetLow = s.resetLow ∧
    (s.classify b c).selLow = s.selLow ∧
    (s.classify b c).ctl = s.ctl ∧
    (s.classify b c).members = s.members ∧
    (s.classify b c).dir = s.dir ∧
    (s.classify b c).repl = s.repl ∧
    (s.classify b c).line = s.line ∧
    (s.classify b c).engine = s.engine ∧
    (s.classify b c).array.flash = s.array.flash ∧
    (s.classify b c).array.badTable = s.array.badTable ∧
    (s.classify b c).array.nextStamp = s.array.nextStamp ∧
    (s.classify b c).array.running = s.array.running ∧
    (s.classify b c).array.failure = s.array.failure ∧
    (s.classify b c).array.reclaim = s.array.reclaim ∧
    (s.classify b c).array.full = s.array.full ∧
    (s.classify b c).array.exhausted = s.array.exhausted ∧
    (s.classify b c).array.erasesLost = s.array.erasesLost ∧
    (s.classify b c).retire = s.retire ∧
    (s.classify b c).port = s.port :=
  by unfold State.classify; (repeat' split) <;> simp

@[simp] theorem State.openScanned_frame (s : State) (c : Scan) :
    (s.openScanned c).pending = s.pending ∧
    (s.openScanned c).now = s.now ∧
    (s.openScanned c).resetLow = s.resetLow ∧
    (s.openScanned c).selLow = s.selLow ∧
    (s.openScanned c).ctl = s.ctl ∧
    (s.openScanned c).members = s.members ∧
    (s.openScanned c).dir = s.dir ∧
    (s.openScanned c).repl = s.repl ∧
    (s.openScanned c).line = s.line ∧
    (s.openScanned c).engine = s.engine ∧
    (s.openScanned c).array.flash = s.array.flash ∧
    (s.openScanned c).array.badTable = s.array.badTable ∧
    (s.openScanned c).array.nextStamp = s.array.nextStamp ∧
    (s.openScanned c).array.running = s.array.running ∧
    (s.openScanned c).array.failure = s.array.failure ∧
    (s.openScanned c).array.reclaim = s.array.reclaim ∧
    (s.openScanned c).array.full = s.array.full ∧
    (s.openScanned c).array.exhausted = s.array.exhausted ∧
    (s.openScanned c).array.scan = s.array.scan ∧
    (s.openScanned c).array.erasesLost = s.array.erasesLost ∧
    (s.openScanned c).retire = s.retire ∧
    (s.openScanned c).port = s.port :=
  by unfold State.openScanned; (repeat' split) <;> simp

@[simp] theorem State.settlePublished_frame (s : State) (markP : Nat) :
    (s.settlePublished markP).pending = s.pending ∧
    (s.settlePublished markP).now = s.now ∧
    (s.settlePublished markP).resetLow = s.resetLow ∧
    (s.settlePublished markP).selLow = s.selLow ∧
    (s.settlePublished markP).ctl = s.ctl ∧
    (s.settlePublished markP).members = s.members ∧
    (s.settlePublished markP).dir.designated = s.dir.designated ∧
    (s.settlePublished markP).dir.standins = s.dir.standins ∧
    (s.settlePublished markP).dir.entries = s.dir.entries ∧
    (s.settlePublished markP).dir.mark = s.dir.mark ∧
    (s.settlePublished markP).repl.publish = s.repl.publish ∧
    (s.settlePublished markP).repl.landing = s.repl.landing ∧
    (s.settlePublished markP).repl.fetch = s.repl.fetch ∧
    (s.settlePublished markP).line = s.line ∧
    (s.settlePublished markP).engine = s.engine ∧
    (s.settlePublished markP).array = s.array ∧
    (s.settlePublished markP).retire = s.retire ∧
    (s.settlePublished markP).port = s.port :=
  by unfold State.settlePublished; (repeat' split) <;> simp

@[simp] theorem State.leaveScan_frame (s : State) (c : Scan) :
    (s.leaveScan c).pending = s.pending ∧
    (s.leaveScan c).now = s.now ∧
    (s.leaveScan c).resetLow = s.resetLow ∧
    (s.leaveScan c).selLow = s.selLow ∧
    (s.leaveScan c).ctl.stopping = s.ctl.stopping ∧
    (s.leaveScan c).ctl.config = s.ctl.config ∧
    (s.leaveScan c).members.peers = s.members.peers ∧
    (s.leaveScan c).dir.designated = s.dir.designated ∧
    (s.leaveScan c).dir.mark = s.dir.mark ∧
    (s.leaveScan c).line = s.line ∧
    (s.leaveScan c).engine.sending = s.engine.sending ∧
    (s.leaveScan c).engine.assembly = s.engine.assembly ∧
    (s.leaveScan c).array.flash = s.array.flash ∧
    (s.leaveScan c).array.freeList = s.array.freeList ∧
    (s.leaveScan c).array.badTable = s.array.badTable ∧
    (s.leaveScan c).array.nextStamp = s.array.nextStamp ∧
    (s.leaveScan c).array.running = s.array.running ∧
    (s.leaveScan c).array.full = s.array.full ∧
    (s.leaveScan c).array.scan = s.array.scan ∧
    (s.leaveScan c).array.erasesLost = s.array.erasesLost ∧
    (s.leaveScan c).port.selected = s.port.selected ∧
    (s.leaveScan c).port.decoder = s.port.decoder ∧
    (s.leaveScan c).port.taken = s.port.taken ∧
    (s.leaveScan c).port.response = s.port.response ∧
    (s.leaveScan c).port.readKey = s.port.readKey :=
  by unfold State.leaveScan; (repeat' split) <;> simp

@[simp] theorem State.endScan_frame (s : State) :
    s.endScan.pending = s.pending ∧
    s.endScan.now = s.now ∧
    s.endScan.resetLow = s.resetLow ∧
    s.endScan.selLow = s.selLow ∧
    s.endScan.ctl.stopping = s.ctl.stopping ∧
    s.endScan.ctl.config = s.ctl.config ∧
    s.endScan.members.peers = s.members.peers ∧
    s.endScan.dir.designated = s.dir.designated ∧
    s.endScan.dir.mark = s.dir.mark ∧
    s.endScan.line = s.line ∧
    s.endScan.engine.sending = s.engine.sending ∧
    s.endScan.engine.assembly = s.engine.assembly ∧
    s.endScan.array.badTable = s.array.badTable ∧
    s.endScan.array.erasesLost = s.array.erasesLost ∧
    s.endScan.port.selected = s.port.selected ∧
    s.endScan.port.decoder = s.port.decoder ∧
    s.endScan.port.taken = s.port.taken ∧
    s.endScan.port.response = s.port.response ∧
    s.endScan.port.readKey = s.port.readKey :=
  by unfold State.endScan; (repeat' split) <;> simp

@[simp] theorem State.endPass_frame (s : State) :
    s.endPass.pending = s.pending ∧
    s.endPass.now = s.now ∧
    s.endPass.resetLow = s.resetLow ∧
    s.endPass.selLow = s.selLow ∧
    s.endPass.ctl.stopping = s.ctl.stopping ∧
    s.endPass.ctl.config = s.ctl.config ∧
    s.endPass.members.peers = s.members.peers ∧
    s.endPass.dir.designated = s.dir.designated ∧
    s.endPass.dir.mark = s.dir.mark ∧
    s.endPass.line = s.line ∧
    s.endPass.engine.sending = s.engine.sending ∧
    s.endPass.engine.assembly = s.engine.assembly ∧
    s.endPass.array.badTable = s.array.badTable ∧
    s.endPass.array.erasesLost = s.array.erasesLost ∧
    s.endPass.port.selected = s.port.selected ∧
    s.endPass.port.decoder = s.port.decoder ∧
    s.endPass.port.taken = s.port.taken ∧
    s.endPass.port.response = s.port.response ∧
    s.endPass.port.readKey = s.port.readKey :=
  by unfold State.endPass; (repeat' split) <;> simp

@[simp] theorem State.nextBlock_frame (s : State) (b : Block) (further : Bool) :
    (s.nextBlock b further).pending = s.pending ∧
    (s.nextBlock b further).now = s.now ∧
    (s.nextBlock b further).resetLow = s.resetLow ∧
    (s.nextBlock b further).selLow = s.selLow ∧
    (s.nextBlock b further).ctl.stopping = s.ctl.stopping ∧
    (s.nextBlock b further).ctl.config = s.ctl.config ∧
    (s.nextBlock b further).members.peers = s.members.peers ∧
    (s.nextBlock b further).dir.designated = s.dir.designated ∧
    (s.nextBlock b further).dir.mark = s.dir.mark ∧
    (s.nextBlock b further).line = s.line ∧
    (s.nextBlock b further).engine.sending = s.engine.sending ∧
    (s.nextBlock b further).engine.assembly = s.engine.assembly ∧
    (s.nextBlock b further).array.badTable = s.array.badTable ∧
    (s.nextBlock b further).array.erasesLost = s.array.erasesLost ∧
    (s.nextBlock b further).port.selected = s.port.selected ∧
    (s.nextBlock b further).port.decoder = s.port.decoder ∧
    (s.nextBlock b further).port.taken = s.port.taken ∧
    (s.nextBlock b further).port.response = s.port.response ∧
    (s.nextBlock b further).port.readKey = s.port.readKey :=
  by unfold State.nextBlock; (repeat' split) <;> simp

@[simp] theorem State.scanTagDone_frame (s : State) (b : Block) (r : TagRead) :
    (s.scanTagDone b r).pending = s.pending ∧
    (s.scanTagDone b r).now = s.now ∧
    (s.scanTagDone b r).resetLow = s.resetLow ∧
    (s.scanTagDone b r).selLow = s.selLow ∧
    (s.scanTagDone b r).ctl.stopping = s.ctl.stopping ∧
    (s.scanTagDone b r).ctl.config = s.ctl.config ∧
    (s.scanTagDone b r).members.peers = s.members.peers ∧
    (s.scanTagDone b r).dir.designated = s.dir.designated ∧
    (s.scanTagDone b r).dir.mark = s.dir.mark ∧
    (s.scanTagDone b r).line = s.line ∧
    (s.scanTagDone b r).engine.sending = s.engine.sending ∧
    (s.scanTagDone b r).engine.assembly = s.engine.assembly ∧
    (s.scanTagDone b r).array.erasesLost = s.array.erasesLost ∧
    (s.scanTagDone b r).port.selected = s.port.selected ∧
    (s.scanTagDone b r).port.decoder = s.port.decoder ∧
    (s.scanTagDone b r).port.taken = s.port.taken ∧
    (s.scanTagDone b r).port.response = s.port.response ∧
    (s.scanTagDone b r).port.readKey = s.port.readKey :=
  by unfold State.scanTagDone; (repeat' split) <;> simp

@[simp] theorem State.scanSlotFirst_frame (s : State) (l : Loc) (r : HeaderRead) :
    (s.scanSlotFirst l r).pending = s.pending ∧
    (s.scanSlotFirst l r).now = s.now ∧
    (s.scanSlotFirst l r).resetLow = s.resetLow ∧
    (s.scanSlotFirst l r).selLow = s.selLow ∧
    (s.scanSlotFirst l r).ctl.stopping = s.ctl.stopping ∧
    (s.scanSlotFirst l r).ctl.config = s.ctl.config ∧
    (s.scanSlotFirst l r).members.peers = s.members.peers ∧
    (s.scanSlotFirst l r).dir.designated = s.dir.designated ∧
    (s.scanSlotFirst l r).dir.mark = s.dir.mark ∧
    (s.scanSlotFirst l r).line = s.line ∧
    (s.scanSlotFirst l r).engine.sending = s.engine.sending ∧
    (s.scanSlotFirst l r).engine.assembly = s.engine.assembly ∧
    (s.scanSlotFirst l r).array.badTable = s.array.badTable ∧
    (s.scanSlotFirst l r).array.erasesLost = s.array.erasesLost ∧
    (s.scanSlotFirst l r).port.selected = s.port.selected ∧
    (s.scanSlotFirst l r).port.decoder = s.port.decoder ∧
    (s.scanSlotFirst l r).port.taken = s.port.taken ∧
    (s.scanSlotFirst l r).port.response = s.port.response ∧
    (s.scanSlotFirst l r).port.readKey = s.port.readKey :=
  by unfold State.scanSlotFirst; (repeat' split) <;> simp

@[simp] theorem State.scanSlotFurther_frame (s : State) (l : Loc) (r : HeaderRead) :
    (s.scanSlotFurther l r).pending = s.pending ∧
    (s.scanSlotFurther l r).now = s.now ∧
    (s.scanSlotFurther l r).resetLow = s.resetLow ∧
    (s.scanSlotFurther l r).selLow = s.selLow ∧
    (s.scanSlotFurther l r).ctl.stopping = s.ctl.stopping ∧
    (s.scanSlotFurther l r).ctl.config = s.ctl.config ∧
    (s.scanSlotFurther l r).members.peers = s.members.peers ∧
    (s.scanSlotFurther l r).dir.designated = s.dir.designated ∧
    (s.scanSlotFurther l r).dir.mark = s.dir.mark ∧
    (s.scanSlotFurther l r).line = s.line ∧
    (s.scanSlotFurther l r).engine.sending = s.engine.sending ∧
    (s.scanSlotFurther l r).engine.assembly = s.engine.assembly ∧
    (s.scanSlotFurther l r).array.badTable = s.array.badTable ∧
    (s.scanSlotFurther l r).array.erasesLost = s.array.erasesLost ∧
    (s.scanSlotFurther l r).port.selected = s.port.selected ∧
    (s.scanSlotFurther l r).port.decoder = s.port.decoder ∧
    (s.scanSlotFurther l r).port.taken = s.port.taken ∧
    (s.scanSlotFurther l r).port.response = s.port.response ∧
    (s.scanSlotFurther l r).port.readKey = s.port.readKey :=
  by unfold State.scanSlotFurther; (repeat' split) <;> simp

@[simp] theorem State.scanSlotDone_frame (s : State) (l : Loc) (r : HeaderRead) :
    (s.scanSlotDone l r).pending = s.pending ∧
    (s.scanSlotDone l r).now = s.now ∧
    (s.scanSlotDone l r).resetLow = s.resetLow ∧
    (s.scanSlotDone l r).selLow = s.selLow ∧
    (s.scanSlotDone l r).ctl.stopping = s.ctl.stopping ∧
    (s.scanSlotDone l r).ctl.config = s.ctl.config ∧
    (s.scanSlotDone l r).members.peers = s.members.peers ∧
    (s.scanSlotDone l r).dir.designated = s.dir.designated ∧
    (s.scanSlotDone l r).dir.mark = s.dir.mark ∧
    (s.scanSlotDone l r).line = s.line ∧
    (s.scanSlotDone l r).engine.sending = s.engine.sending ∧
    (s.scanSlotDone l r).engine.assembly = s.engine.assembly ∧
    (s.scanSlotDone l r).array.badTable = s.array.badTable ∧
    (s.scanSlotDone l r).array.erasesLost = s.array.erasesLost ∧
    (s.scanSlotDone l r).port.selected = s.port.selected ∧
    (s.scanSlotDone l r).port.decoder = s.port.decoder ∧
    (s.scanSlotDone l r).port.taken = s.port.taken ∧
    (s.scanSlotDone l r).port.response = s.port.response ∧
    (s.scanSlotDone l r).port.readKey = s.port.readKey :=
  by unfold State.scanSlotDone; (repeat' split) <;> simp

@[simp] theorem State.takeMark_frame (s : State) (l : Loc) (stamp floor p : Nat) :
    (s.takeMark l stamp floor p).pending = s.pending ∧
    (s.takeMark l stamp floor p).now = s.now ∧
    (s.takeMark l stamp floor p).resetLow = s.resetLow ∧
    (s.takeMark l stamp floor p).selLow = s.selLow ∧
    (s.takeMark l stamp floor p).ctl.stopping = s.ctl.stopping ∧
    (s.takeMark l stamp floor p).ctl.config = s.ctl.config ∧
    (s.takeMark l stamp floor p).members.peers = s.members.peers ∧
    (s.takeMark l stamp floor p).dir.designated = s.dir.designated ∧
    (s.takeMark l stamp floor p).line = s.line ∧
    (s.takeMark l stamp floor p).engine.sending = s.engine.sending ∧
    (s.takeMark l stamp floor p).engine.assembly = s.engine.assembly ∧
    (s.takeMark l stamp floor p).array.badTable = s.array.badTable ∧
    (s.takeMark l stamp floor p).array.erasesLost = s.array.erasesLost ∧
    (s.takeMark l stamp floor p).port.selected = s.port.selected ∧
    (s.takeMark l stamp floor p).port.decoder = s.port.decoder ∧
    (s.takeMark l stamp floor p).port.taken = s.port.taken ∧
    (s.takeMark l stamp floor p).port.response = s.port.response ∧
    (s.takeMark l stamp floor p).port.readKey = s.port.readKey :=
  by unfold State.takeMark; (repeat' split) <;> simp

@[simp] theorem State.seekMark_frame (s : State) (stamp : Nat) :
    (s.seekMark stamp).pending = s.pending ∧
    (s.seekMark stamp).now = s.now ∧
    (s.seekMark stamp).resetLow = s.resetLow ∧
    (s.seekMark stamp).selLow = s.selLow ∧
    (s.seekMark stamp).ctl.stopping = s.ctl.stopping ∧
    (s.seekMark stamp).ctl.config = s.ctl.config ∧
    (s.seekMark stamp).members.peers = s.members.peers ∧
    (s.seekMark stamp).dir.designated = s.dir.designated ∧
    (s.seekMark stamp).dir.mark = s.dir.mark ∧
    (s.seekMark stamp).line = s.line ∧
    (s.seekMark stamp).engine.sending = s.engine.sending ∧
    (s.seekMark stamp).engine.assembly = s.engine.assembly ∧
    (s.seekMark stamp).array.badTable = s.array.badTable ∧
    (s.seekMark stamp).array.erasesLost = s.array.erasesLost ∧
    (s.seekMark stamp).port.selected = s.port.selected ∧
    (s.seekMark stamp).port.decoder = s.port.decoder ∧
    (s.seekMark stamp).port.taken = s.port.taken ∧
    (s.seekMark stamp).port.response = s.port.response ∧
    (s.seekMark stamp).port.readKey = s.port.readKey :=
  by unfold State.seekMark; simp; (repeat' split) <;> simp

@[simp] theorem State.scanMarkDone_frame (s : State) (l : Loc) (stamp errors : Nat) :
    (s.scanMarkDone l stamp errors).pending = s.pending ∧
    (s.scanMarkDone l stamp errors).now = s.now ∧
    (s.scanMarkDone l stamp errors).resetLow = s.resetLow ∧
    (s.scanMarkDone l stamp errors).selLow = s.selLow ∧
    (s.scanMarkDone l stamp errors).ctl.stopping = s.ctl.stopping ∧
    (s.scanMarkDone l stamp errors).ctl.config = s.ctl.config ∧
    (s.scanMarkDone l stamp errors).members.peers = s.members.peers ∧
    (s.scanMarkDone l stamp errors).dir.designated = s.dir.designated ∧
    (s.scanMarkDone l stamp errors).line = s.line ∧
    (s.scanMarkDone l stamp errors).engine.sending = s.engine.sending ∧
    (s.scanMarkDone l stamp errors).engine.assembly = s.engine.assembly ∧
    (s.scanMarkDone l stamp errors).array.badTable = s.array.badTable ∧
    (s.scanMarkDone l stamp errors).array.erasesLost = s.array.erasesLost ∧
    (s.scanMarkDone l stamp errors).port.selected = s.port.selected ∧
    (s.scanMarkDone l stamp errors).port.decoder = s.port.decoder ∧
    (s.scanMarkDone l stamp errors).port.taken = s.port.taken ∧
    (s.scanMarkDone l stamp errors).port.response = s.port.response ∧
    (s.scanMarkDone l stamp errors).port.readKey = s.port.readKey :=
  by unfold State.scanMarkDone; simp; (repeat' split) <;> simp

@[simp] theorem State.acknowledge_frame (s : State) (o : Station) :
    (s.acknowledge o).pending = s.pending ∧
    (s.acknowledge o).now = s.now ∧
    (s.acknowledge o).resetLow = s.resetLow ∧
    (s.acknowledge o).selLow = s.selLow ∧
    (s.acknowledge o).ctl = s.ctl ∧
    (s.acknowledge o).members = s.members ∧
    (s.acknowledge o).dir = s.dir ∧
    (s.acknowledge o).repl = s.repl ∧
    (s.acknowledge o).engine = s.engine ∧
    (s.acknowledge o).array = s.array ∧
    (s.acknowledge o).retire = s.retire ∧
    (s.acknowledge o).port = s.port :=
  by unfold State.acknowledge; (repeat' split) <;> simp

@[simp] theorem State.takePage_frame (s : State) (k : Key) (payload : List Byte) :
    (s.takePage k payload).pending = s.pending ∧
    (s.takePage k payload).now = s.now ∧
    (s.takePage k payload).resetLow = s.resetLow ∧
    (s.takePage k payload).selLow = s.selLow ∧
    (s.takePage k payload).ctl = s.ctl ∧
    (s.takePage k payload).members = s.members ∧
    (s.takePage k payload).dir.designated = s.dir.designated ∧
    (s.takePage k payload).dir.mark = s.dir.mark ∧
    (s.takePage k payload).repl.publish = s.repl.publish ∧
    (s.takePage k payload).engine = s.engine ∧
    (s.takePage k payload).array = s.array ∧
    (s.takePage k payload).retire = s.retire ∧
    (s.takePage k payload).port.selected = s.port.selected ∧
    (s.takePage k payload).port.decoder = s.port.decoder ∧
    (s.takePage k payload).port.taken = s.port.taken ∧
    (s.takePage k payload).port.response = s.port.response ∧
    (s.takePage k payload).port.readKey = s.port.readKey :=
  by unfold State.takePage; simp; (repeat' split) <;> simp

@[simp] theorem State.suppress_frame (s : State) (k : Key) :
    (s.suppress k).pending = s.pending ∧
    (s.suppress k).now = s.now ∧
    (s.suppress k).resetLow = s.resetLow ∧
    (s.suppress k).selLow = s.selLow ∧
    (s.suppress k).ctl = s.ctl ∧
    (s.suppress k).members = s.members ∧
    (s.suppress k).dir = s.dir ∧
    (s.suppress k).repl = s.repl ∧
    (s.suppress k).line = s.line ∧
    (s.suppress k).engine.sending = s.engine.sending ∧
    (s.suppress k).engine.assembly = s.engine.assembly ∧
    (s.suppress k).array = s.array ∧
    (s.suppress k).retire = s.retire ∧
    (s.suppress k).port = s.port :=
  by unfold State.suppress; (repeat' split) <;> simp

@[simp] theorem State.fillWant_frame (s : State) (k : Key) (payload : List Byte) :
    (s.fillWant k payload).pending = s.pending ∧
    (s.fillWant k payload).now = s.now ∧
    (s.fillWant k payload).resetLow = s.resetLow ∧
    (s.fillWant k payload).selLow = s.selLow ∧
    (s.fillWant k payload).ctl = s.ctl ∧
    (s.fillWant k payload).members = s.members ∧
    (s.fillWant k payload).dir.designated = s.dir.designated ∧
    (s.fillWant k payload).dir.mark = s.dir.mark ∧
    (s.fillWant k payload).repl.publish = s.repl.publish ∧
    (s.fillWant k payload).line = s.line ∧
    (s.fillWant k payload).engine = s.engine ∧
    (s.fillWant k payload).array = s.array ∧
    (s.fillWant k payload).retire = s.retire ∧
    (s.fillWant k payload).port.selected = s.port.selected ∧
    (s.fillWant k payload).port.decoder = s.port.decoder ∧
    (s.fillWant k payload).port.taken = s.port.taken ∧
    (s.fillWant k payload).port.response = s.port.response ∧
    (s.fillWant k payload).port.readKey = s.port.readKey :=
  by unfold State.fillWant; (repeat' split) <;> simp

@[simp] theorem State.fillFetch_frame (s : State) (k : Key) (payload : List Byte) :
    (s.fillFetch k payload).pending = s.pending ∧
    (s.fillFetch k payload).now = s.now ∧
    (s.fillFetch k payload).resetLow = s.resetLow ∧
    (s.fillFetch k payload).selLow = s.selLow ∧
    (s.fillFetch k payload).ctl = s.ctl ∧
    (s.fillFetch k payload).members = s.members ∧
    (s.fillFetch k payload).dir = s.dir ∧
    (s.fillFetch k payload).repl.publish = s.repl.publish ∧
    (s.fillFetch k payload).repl.landing = s.repl.landing ∧
    (s.fillFetch k payload).repl.wants = s.repl.wants ∧
    (s.fillFetch k payload).line = s.line ∧
    (s.fillFetch k payload).engine = s.engine ∧
    (s.fillFetch k payload).array = s.array ∧
    (s.fillFetch k payload).retire = s.retire ∧
    (s.fillFetch k payload).port.selected = s.port.selected ∧
    (s.fillFetch k payload).port.decoder = s.port.decoder ∧
    (s.fillFetch k payload).port.taken = s.port.taken ∧
    (s.fillFetch k payload).port.response = s.port.response ∧
    (s.fillFetch k payload).port.readKey = s.port.readKey :=
  by unfold State.fillFetch; (repeat' split) <;> simp

@[simp] theorem State.takeRepair_frame (s : State) (k : Key) (payload : List Byte) :
    (s.takeRepair k payload).pending = s.pending ∧
    (s.takeRepair k payload).now = s.now ∧
    (s.takeRepair k payload).resetLow = s.resetLow ∧
    (s.takeRepair k payload).selLow = s.selLow ∧
    (s.takeRepair k payload).ctl = s.ctl ∧
    (s.takeRepair k payload).members = s.members ∧
    (s.takeRepair k payload).dir.designated = s.dir.designated ∧
    (s.takeRepair k payload).dir.mark = s.dir.mark ∧
    (s.takeRepair k payload).repl.publish = s.repl.publish ∧
    (s.takeRepair k payload).line = s.line ∧
    (s.takeRepair k payload).engine.sending = s.engine.sending ∧
    (s.takeRepair k payload).engine.assembly = s.engine.assembly ∧
    (s.takeRepair k payload).array = s.array ∧
    (s.takeRepair k payload).retire = s.retire ∧
    (s.takeRepair k payload).port.selected = s.port.selected ∧
    (s.takeRepair k payload).port.decoder = s.port.decoder ∧
    (s.takeRepair k payload).port.taken = s.port.taken ∧
    (s.takeRepair k payload).port.response = s.port.response ∧
    (s.takeRepair k payload).port.readKey = s.port.readKey :=
  by unfold State.takeRepair; (repeat' split) <;> simp

@[simp] theorem State.postPeer_frame (s : State) (p : Station) :
    (s.postPeer p).pending = s.pending ∧
    (s.postPeer p).now = s.now ∧
    (s.postPeer p).resetLow = s.resetLow ∧
    (s.postPeer p).selLow = s.selLow ∧
    (s.postPeer p).ctl = s.ctl ∧
    (s.postPeer p).members = s.members ∧
    (s.postPeer p).dir = s.dir ∧
    (s.postPeer p).repl = s.repl ∧
    (s.postPeer p).line = s.line ∧
    (s.postPeer p).engine = s.engine ∧
    (s.postPeer p).array = s.array ∧
    (s.postPeer p).retire = s.retire ∧
    (s.postPeer p).port.selected = s.port.selected ∧
    (s.postPeer p).port.decoder = s.port.decoder ∧
    (s.postPeer p).port.taken = s.port.taken ∧
    (s.postPeer p).port.response = s.port.response ∧
    (s.postPeer p).port.read = s.port.read ∧
    (s.postPeer p).port.readKey = s.port.readKey ∧
    (s.postPeer p).port.readRequested = s.port.readRequested ∧
    (s.postPeer p).port.readBuffer = s.port.readBuffer :=
  by unfold State.postPeer; (repeat' split) <;> simp

@[simp] theorem State.checkFor_frame (s : State) (p : Station) :
    (s.checkFor p).pending = s.pending ∧
    (s.checkFor p).now = s.now ∧
    (s.checkFor p).resetLow = s.resetLow ∧
    (s.checkFor p).selLow = s.selLow ∧
    (s.checkFor p).ctl = s.ctl ∧
    (s.checkFor p).members = s.members ∧
    (s.checkFor p).dir.designated = s.dir.designated ∧
    (s.checkFor p).dir.mark = s.dir.mark ∧
    (s.checkFor p).line = s.line ∧
    (s.checkFor p).engine.sending = s.engine.sending ∧
    (s.checkFor p).engine.assembly = s.engine.assembly ∧
    (s.checkFor p).array.flash = s.array.flash ∧
    (s.checkFor p).array.freeList = s.array.freeList ∧
    (s.checkFor p).array.badTable = s.array.badTable ∧
    (s.checkFor p).array.nextStamp = s.array.nextStamp ∧
    (s.checkFor p).array.running = s.array.running ∧
    (s.checkFor p).array.failure = s.array.failure ∧
    (s.checkFor p).array.reclaim = s.array.reclaim ∧
    (s.checkFor p).array.full = s.array.full ∧
    (s.checkFor p).array.exhausted = s.array.exhausted ∧
    (s.checkFor p).array.scan = s.array.scan ∧
    (s.checkFor p).array.erasesLost = s.array.erasesLost ∧
    (s.checkFor p).retire = s.retire ∧
    (s.checkFor p).port.selected = s.port.selected ∧
    (s.checkFor p).port.decoder = s.port.decoder ∧
    (s.checkFor p).port.taken = s.port.taken ∧
    (s.checkFor p).port.response = s.port.response ∧
    (s.checkFor p).port.readKey = s.port.readKey :=
  by
    unfold State.checkFor
    generalize stations = l
    induction l generalizing s with
    | nil => simp
    | cons o l ih =>
      rw [List.foldl_cons]
      split
      · simpa using ih (s.releaseCheck o)
      · exact ih s

@[simp] theorem State.handOn_frame (s : State) (p : Station) (b : BeaconRec) (before : BitVec 16) :
    (s.handOn p b before).pending = s.pending ∧
    (s.handOn p b before).now = s.now ∧
    (s.handOn p b before).resetLow = s.resetLow ∧
    (s.handOn p b before).selLow = s.selLow ∧
    (s.handOn p b before).ctl = s.ctl ∧
    (s.handOn p b before).members = s.members ∧
    (s.handOn p b before).dir.designated = s.dir.designated ∧
    (s.handOn p b before).dir.mark = s.dir.mark ∧
    (s.handOn p b before).line = s.line ∧
    (s.handOn p b before).engine.sending = s.engine.sending ∧
    (s.handOn p b before).engine.assembly = s.engine.assembly ∧
    (s.handOn p b before).array.flash = s.array.flash ∧
    (s.handOn p b before).array.freeList = s.array.freeList ∧
    (s.handOn p b before).array.badTable = s.array.badTable ∧
    (s.handOn p b before).array.nextStamp = s.array.nextStamp ∧
    (s.handOn p b before).array.running = s.array.running ∧
    (s.handOn p b before).array.failure = s.array.failure ∧
    (s.handOn p b before).array.reclaim = s.array.reclaim ∧
    (s.handOn p b before).array.full = s.array.full ∧
    (s.handOn p b before).array.exhausted = s.array.exhausted ∧
    (s.handOn p b before).array.scan = s.array.scan ∧
    (s.handOn p b before).array.erasesLost = s.array.erasesLost ∧
    (s.handOn p b before).retire = s.retire ∧
    (s.handOn p b before).port.selected = s.port.selected ∧
    (s.handOn p b before).port.decoder = s.port.decoder ∧
    (s.handOn p b before).port.taken = s.port.taken ∧
    (s.handOn p b before).port.response = s.port.response ∧
    (s.handOn p b before).port.readKey = s.port.readKey :=
  by
    simp only [State.handOn, List.foldl_eq_foldr_reverse]
    generalize b.items.reverse = l
    induction l with
    | nil => simp
    | cons i l ih => simpa using ih

@[simp] theorem State.takeMatching_frame (s : State) (p : Station) (b : BeaconRec) :
    (s.takeMatching p b).pending = s.pending ∧
    (s.takeMatching p b).now = s.now ∧
    (s.takeMatching p b).resetLow = s.resetLow ∧
    (s.takeMatching p b).selLow = s.selLow ∧
    (s.takeMatching p b).ctl = s.ctl ∧
    (s.takeMatching p b).members.beaconTimer = s.members.beaconTimer ∧
    (s.takeMatching p b).dir.designated = s.dir.designated ∧
    (s.takeMatching p b).dir.mark = s.dir.mark ∧
    (s.takeMatching p b).line = s.line ∧
    (s.takeMatching p b).engine.sending = s.engine.sending ∧
    (s.takeMatching p b).engine.assembly = s.engine.assembly ∧
    (s.takeMatching p b).array.flash = s.array.flash ∧
    (s.takeMatching p b).array.freeList = s.array.freeList ∧
    (s.takeMatching p b).array.badTable = s.array.badTable ∧
    (s.takeMatching p b).array.nextStamp = s.array.nextStamp ∧
    (s.takeMatching p b).array.running = s.array.running ∧
    (s.takeMatching p b).array.failure = s.array.failure ∧
    (s.takeMatching p b).array.reclaim = s.array.reclaim ∧
    (s.takeMatching p b).array.full = s.array.full ∧
    (s.takeMatching p b).array.exhausted = s.array.exhausted ∧
    (s.takeMatching p b).array.scan = s.array.scan ∧
    (s.takeMatching p b).array.erasesLost = s.array.erasesLost ∧
    (s.takeMatching p b).retire = s.retire ∧
    (s.takeMatching p b).port.selected = s.port.selected ∧
    (s.takeMatching p b).port.decoder = s.port.decoder ∧
    (s.takeMatching p b).port.taken = s.port.taken ∧
    (s.takeMatching p b).port.response = s.port.response ∧
    (s.takeMatching p b).port.readKey = s.port.readKey :=
  by unfold State.takeMatching; simp; (repeat' split) <;> simp

@[simp] theorem State.takeMismatching_frame (s : State) (p : Station) (factor roster : Bool) :
    (s.takeMismatching p factor roster).pending = s.pending ∧
    (s.takeMismatching p factor roster).now = s.now ∧
    (s.takeMismatching p factor roster).resetLow = s.resetLow ∧
    (s.takeMismatching p factor roster).selLow = s.selLow ∧
    (s.takeMismatching p factor roster).ctl = s.ctl ∧
    (s.takeMismatching p factor roster).members.beaconTimer = s.members.beaconTimer ∧
    (s.takeMismatching p factor roster).dir.designated = s.dir.designated ∧
    (s.takeMismatching p factor roster).dir.mark = s.dir.mark ∧
    (s.takeMismatching p factor roster).line = s.line ∧
    (s.takeMismatching p factor roster).engine.sending = s.engine.sending ∧
    (s.takeMismatching p factor roster).engine.assembly = s.engine.assembly ∧
    (s.takeMismatching p factor roster).array.flash = s.array.flash ∧
    (s.takeMismatching p factor roster).array.freeList = s.array.freeList ∧
    (s.takeMismatching p factor roster).array.badTable = s.array.badTable ∧
    (s.takeMismatching p factor roster).array.nextStamp = s.array.nextStamp ∧
    (s.takeMismatching p factor roster).array.running = s.array.running ∧
    (s.takeMismatching p factor roster).array.failure = s.array.failure ∧
    (s.takeMismatching p factor roster).array.reclaim = s.array.reclaim ∧
    (s.takeMismatching p factor roster).array.full = s.array.full ∧
    (s.takeMismatching p factor roster).array.exhausted = s.array.exhausted ∧
    (s.takeMismatching p factor roster).array.scan = s.array.scan ∧
    (s.takeMismatching p factor roster).array.erasesLost = s.array.erasesLost ∧
    (s.takeMismatching p factor roster).retire = s.retire ∧
    (s.takeMismatching p factor roster).port.selected = s.port.selected ∧
    (s.takeMismatching p factor roster).port.decoder = s.port.decoder ∧
    (s.takeMismatching p factor roster).port.taken = s.port.taken ∧
    (s.takeMismatching p factor roster).port.response = s.port.response ∧
    (s.takeMismatching p factor roster).port.readKey = s.port.readKey :=
  by unfold State.takeMismatching; simp; (repeat' split) <;> simp

@[simp] theorem State.heardFrom_frame (s : State) (p : Station) :
    (s.heardFrom p).pending = s.pending ∧
    (s.heardFrom p).now = s.now ∧
    (s.heardFrom p).resetLow = s.resetLow ∧
    (s.heardFrom p).selLow = s.selLow ∧
    (s.heardFrom p).ctl = s.ctl ∧
    (s.heardFrom p).members.beaconTimer = s.members.beaconTimer ∧
    (s.heardFrom p).dir.designated = s.dir.designated ∧
    (s.heardFrom p).dir.mark = s.dir.mark ∧
    (s.heardFrom p).line = s.line ∧
    (s.heardFrom p).engine.sending = s.engine.sending ∧
    (s.heardFrom p).engine.assembly = s.engine.assembly ∧
    (s.heardFrom p).array.flash = s.array.flash ∧
    (s.heardFrom p).array.freeList = s.array.freeList ∧
    (s.heardFrom p).array.badTable = s.array.badTable ∧
    (s.heardFrom p).array.nextStamp = s.array.nextStamp ∧
    (s.heardFrom p).array.running = s.array.running ∧
    (s.heardFrom p).array.failure = s.array.failure ∧
    (s.heardFrom p).array.reclaim = s.array.reclaim ∧
    (s.heardFrom p).array.full = s.array.full ∧
    (s.heardFrom p).array.exhausted = s.array.exhausted ∧
    (s.heardFrom p).array.scan = s.array.scan ∧
    (s.heardFrom p).array.erasesLost = s.array.erasesLost ∧
    (s.heardFrom p).retire = s.retire ∧
    (s.heardFrom p).port.selected = s.port.selected ∧
    (s.heardFrom p).port.decoder = s.port.decoder ∧
    (s.heardFrom p).port.taken = s.port.taken ∧
    (s.heardFrom p).port.response = s.port.response ∧
    (s.heardFrom p).port.readKey = s.port.readKey :=
  by unfold State.heardFrom; simp; (repeat' split) <;> simp

@[simp] theorem State.heardExcluded_frame (s : State) (p : Station) :
    (s.heardExcluded p).pending = s.pending ∧
    (s.heardExcluded p).now = s.now ∧
    (s.heardExcluded p).resetLow = s.resetLow ∧
    (s.heardExcluded p).selLow = s.selLow ∧
    (s.heardExcluded p).ctl = s.ctl ∧
    (s.heardExcluded p).members.beaconTimer = s.members.beaconTimer ∧
    (s.heardExcluded p).dir = s.dir ∧
    (s.heardExcluded p).repl = s.repl ∧
    (s.heardExcluded p).line = s.line ∧
    (s.heardExcluded p).engine = s.engine ∧
    (s.heardExcluded p).array = s.array ∧
    (s.heardExcluded p).retire = s.retire ∧
    (s.heardExcluded p).port = s.port :=
  ⟨rfl, rfl, rfl, rfl, rfl, rfl, rfl, rfl, rfl, rfl, rfl, rfl, rfl⟩

@[simp] theorem State.takeDuplicate_frame (s : State) (kind : FrameKind) :
    (s.takeDuplicate kind).pending = s.pending ∧
    (s.takeDuplicate kind).now = s.now ∧
    (s.takeDuplicate kind).resetLow = s.resetLow ∧
    (s.takeDuplicate kind).selLow = s.selLow ∧
    (s.takeDuplicate kind).ctl.stopping = s.ctl.stopping ∧
    (s.takeDuplicate kind).ctl.config = s.ctl.config ∧
    (s.takeDuplicate kind).members.peers = s.members.peers ∧
    (s.takeDuplicate kind).dir.designated = s.dir.designated ∧
    (s.takeDuplicate kind).dir.mark = s.dir.mark ∧
    (s.takeDuplicate kind).engine.sending = s.engine.sending ∧
    (s.takeDuplicate kind).engine.assembly = s.engine.assembly ∧
    (s.takeDuplicate kind).array.flash = s.array.flash ∧
    (s.takeDuplicate kind).array.freeList = s.array.freeList ∧
    (s.takeDuplicate kind).array.badTable = s.array.badTable ∧
    (s.takeDuplicate kind).array.nextStamp = s.array.nextStamp ∧
    (s.takeDuplicate kind).array.running = s.array.running ∧
    (s.takeDuplicate kind).array.failure = s.array.failure ∧
    (s.takeDuplicate kind).array.reclaim = s.array.reclaim ∧
    (s.takeDuplicate kind).array.full = s.array.full ∧
    (s.takeDuplicate kind).array.exhausted = s.array.exhausted ∧
    (s.takeDuplicate kind).array.scan = s.array.scan ∧
    (s.takeDuplicate kind).array.erasesLost = s.array.erasesLost ∧
    (s.takeDuplicate kind).retire = s.retire ∧
    (s.takeDuplicate kind).port.selected = s.port.selected ∧
    (s.takeDuplicate kind).port.decoder = s.port.decoder ∧
    (s.takeDuplicate kind).port.taken = s.port.taken ∧
    (s.takeDuplicate kind).port.response = s.port.response ∧
    (s.takeDuplicate kind).port.readKey = s.port.readKey :=
  by unfold State.takeDuplicate; (repeat' split) <;> simp

@[simp] theorem State.closeTransaction_frame (s : State) :
    s.closeTransaction.pending = s.pending ∧
    s.closeTransaction.now = s.now ∧
    s.closeTransaction.resetLow = s.resetLow ∧
    s.closeTransaction.selLow = false ∧
    s.closeTransaction.ctl.state = s.ctl.state ∧
    s.closeTransaction.ctl.config = s.ctl.config ∧
    s.closeTransaction.ctl.since = s.ctl.since ∧
    s.closeTransaction.members = s.members ∧
    s.closeTransaction.dir = s.dir ∧
    s.closeTransaction.repl = s.repl ∧
    s.closeTransaction.engine.assembly = s.engine.assembly ∧
    s.closeTransaction.array = s.array ∧
    s.closeTransaction.retire = s.retire ∧
    s.closeTransaction.port.read = s.port.read ∧
    s.closeTransaction.port.readKey = s.port.readKey ∧
    s.closeTransaction.port.readRequested = s.port.readRequested ∧
    s.closeTransaction.port.readBuffer = s.port.readBuffer ∧
    s.closeTransaction.port.notices = s.port.notices ∧
    s.closeTransaction.port.overflow = s.port.overflow ∧
    s.closeTransaction.port.dropped = s.port.dropped ∧
    s.closeTransaction.port.attn = s.port.attn :=
  by unfold State.closeTransaction; simp; (repeat' split) <;> simp

@[simp] theorem State.beginCommand_frame (s : State) (code : Byte) (args : List Byte) :
    (s.beginCommand code args).pending = s.pending ∧
    (s.beginCommand code args).now = s.now ∧
    (s.beginCommand code args).resetLow = s.resetLow ∧
    (s.beginCommand code args).selLow = true ∧
    (s.beginCommand code args).ctl.state = s.ctl.state ∧
    (s.beginCommand code args).ctl.config = s.ctl.config ∧
    (s.beginCommand code args).ctl.since = s.ctl.since ∧
    (s.beginCommand code args).members = s.members ∧
    (s.beginCommand code args).dir = s.dir ∧
    (s.beginCommand code args).repl = s.repl ∧
    (s.beginCommand code args).engine.assembly = s.engine.assembly ∧
    (s.beginCommand code args).array = s.array ∧
    (s.beginCommand code args).retire = s.retire ∧
    (s.beginCommand code args).port.read = s.port.read ∧
    (s.beginCommand code args).port.readKey = s.port.readKey ∧
    (s.beginCommand code args).port.readRequested = s.port.readRequested ∧
    (s.beginCommand code args).port.readBuffer = s.port.readBuffer ∧
    (s.beginCommand code args).port.notices = s.port.notices ∧
    (s.beginCommand code args).port.overflow = s.port.overflow ∧
    (s.beginCommand code args).port.dropped = s.port.dropped ∧
    (s.beginCommand code args).port.attn = s.port.attn :=
  by unfold State.beginCommand; (repeat' split) <;> simp

@[simp] theorem State.respond_frame (s : State) (code : Byte) (st : Status) (bytes : List Byte) :
    (s.respond code st bytes).pending = s.pending ∧
    (s.respond code st bytes).now = s.now ∧
    (s.respond code st bytes).resetLow = s.resetLow ∧
    (s.respond code st bytes).selLow = s.selLow ∧
    (s.respond code st bytes).ctl = s.ctl ∧
    (s.respond code st bytes).members = s.members ∧
    (s.respond code st bytes).dir = s.dir ∧
    (s.respond code st bytes).repl = s.repl ∧
    (s.respond code st bytes).line = s.line ∧
    (s.respond code st bytes).engine = s.engine ∧
    (s.respond code st bytes).array = s.array ∧
    (s.respond code st bytes).retire = s.retire ∧
    (s.respond code st bytes).port.selected = s.port.selected ∧
    (s.respond code st bytes).port.decoder = s.port.decoder ∧
    (s.respond code st bytes).port.taken = s.port.taken ∧
    (s.respond code st bytes).port.read = s.port.read ∧
    (s.respond code st bytes).port.readKey = s.port.readKey ∧
    (s.respond code st bytes).port.readRequested = s.port.readRequested ∧
    (s.respond code st bytes).port.readBuffer = s.port.readBuffer ∧
    (s.respond code st bytes).port.notices = s.port.notices ∧
    (s.respond code st bytes).port.overflow = s.port.overflow ∧
    (s.respond code st bytes).port.dropped = s.port.dropped ∧
    (s.respond code st bytes).port.attn = s.port.attn :=
  ⟨rfl, rfl, rfl, rfl, rfl, rfl, rfl, rfl, rfl, rfl, rfl, rfl, rfl, rfl, rfl, rfl, rfl, rfl, rfl, rfl, rfl, rfl, rfl⟩

@[simp] theorem State.completeResponse_frame (s : State) (r : Response) :
    (s.completeResponse r).pending = s.pending ∧
    (s.completeResponse r).now = s.now ∧
    (s.completeResponse r).resetLow = s.resetLow ∧
    (s.completeResponse r).selLow = s.selLow ∧
    (s.completeResponse r).ctl = s.ctl ∧
    (s.completeResponse r).members = s.members ∧
    (s.completeResponse r).dir = s.dir ∧
    (s.completeResponse r).repl = s.repl ∧
    (s.completeResponse r).engine = s.engine ∧
    (s.completeResponse r).array = s.array ∧
    (s.completeResponse r).retire = s.retire ∧
    (s.completeResponse r).port.selected = s.port.selected ∧
    (s.completeResponse r).port.decoder = s.port.decoder ∧
    (s.completeResponse r).port.taken = s.port.taken ∧
    (s.completeResponse r).port.response = s.port.response ∧
    (s.completeResponse r).port.readRequested = s.port.readRequested ∧
    (s.completeResponse r).port.dropped = s.port.dropped :=
  by unfold State.completeResponse; (repeat' split) <;> simp

@[simp] theorem State.publishAccepted_frame (s : State) (payload : List Byte) :
    (s.publishAccepted payload).pending = s.pending ∧
    (s.publishAccepted payload).now = s.now ∧
    (s.publishAccepted payload).resetLow = s.resetLow ∧
    (s.publishAccepted payload).selLow = s.selLow ∧
    (s.publishAccepted payload).ctl = s.ctl ∧
    (s.publishAccepted payload).members = s.members ∧
    (s.publishAccepted payload).dir.designated = s.dir.designated ∧
    (s.publishAccepted payload).dir.mark = s.dir.mark ∧
    (s.publishAccepted payload).repl.landing = s.repl.landing ∧
    (s.publishAccepted payload).line = s.line ∧
    (s.publishAccepted payload).engine = s.engine ∧
    (s.publishAccepted payload).array = s.array ∧
    (s.publishAccepted payload).retire = s.retire ∧
    (s.publishAccepted payload).port.selected = s.port.selected ∧
    (s.publishAccepted payload).port.decoder = s.port.decoder ∧
    (s.publishAccepted payload).port.taken = s.port.taken ∧
    (s.publishAccepted payload).port.readKey = s.port.readKey :=
  by unfold State.publishAccepted; (repeat' split) <;> simp

@[simp] theorem State.publish_frame (s : State) (length : Nat) (payload : List Byte) :
    (s.publish length payload).pending = s.pending ∧
    (s.publish length payload).now = s.now ∧
    (s.publish length payload).resetLow = s.resetLow ∧
    (s.publish length payload).selLow = s.selLow ∧
    (s.publish length payload).ctl.stopping = s.ctl.stopping ∧
    (s.publish length payload).ctl.config = s.ctl.config ∧
    (s.publish length payload).members.peers = s.members.peers ∧
    (s.publish length payload).dir.designated = s.dir.designated ∧
    (s.publish length payload).dir.mark = s.dir.mark ∧
    (s.publish length payload).line = s.line ∧
    (s.publish length payload).engine.sending = s.engine.sending ∧
    (s.publish length payload).engine.assembly = s.engine.assembly ∧
    (s.publish length payload).array.freeList = s.array.freeList ∧
    (s.publish length payload).array.badTable = s.array.badTable ∧
    (s.publish length payload).array.scan = s.array.scan ∧
    (s.publish length payload).array.erasesLost = s.array.erasesLost ∧
    (s.publish length payload).port.selected = s.port.selected ∧
    (s.publish length payload).port.decoder = s.port.decoder ∧
    (s.publish length payload).port.taken = s.port.taken ∧
    (s.publish length payload).port.readKey = s.port.readKey :=
  by unfold State.publish; (repeat' split) <;> simp

@[simp] theorem State.readAccepted_frame (s : State) (k : Key) :
    (s.readAccepted k).pending = s.pending ∧
    (s.readAccepted k).now = s.now ∧
    (s.readAccepted k).resetLow = s.resetLow ∧
    (s.readAccepted k).selLow = s.selLow ∧
    (s.readAccepted k).ctl = s.ctl ∧
    (s.readAccepted k).members = s.members ∧
    (s.readAccepted k).dir = s.dir ∧
    (s.readAccepted k).repl.publish = s.repl.publish ∧
    (s.readAccepted k).repl.landing = s.repl.landing ∧
    (s.readAccepted k).repl.wants = s.repl.wants ∧
    (s.readAccepted k).line = s.line ∧
    (s.readAccepted k).engine.sending = s.engine.sending ∧
    (s.readAccepted k).engine.staging = s.engine.staging ∧
    (s.readAccepted k).engine.assembly = s.engine.assembly ∧
    (s.readAccepted k).array = s.array ∧
    (s.readAccepted k).retire = s.retire ∧
    (s.readAccepted k).port.selected = s.port.selected ∧
    (s.readAccepted k).port.decoder = s.port.decoder ∧
    (s.readAccepted k).port.taken = s.port.taken ∧
    (s.readAccepted k).port.response = s.port.response :=
  by unfold State.readAccepted; simp; (repeat' split) <;> simp

@[simp] theorem State.readPage_frame (s : State) (o q : Nat) :
    (s.readPage o q).pending = s.pending ∧
    (s.readPage o q).now = s.now ∧
    (s.readPage o q).resetLow = s.resetLow ∧
    (s.readPage o q).selLow = s.selLow ∧
    (s.readPage o q).ctl.stopping = s.ctl.stopping ∧
    (s.readPage o q).ctl.config = s.ctl.config ∧
    (s.readPage o q).members.peers = s.members.peers ∧
    (s.readPage o q).dir.designated = s.dir.designated ∧
    (s.readPage o q).dir.mark = s.dir.mark ∧
    (s.readPage o q).line = s.line ∧
    (s.readPage o q).engine.sending = s.engine.sending ∧
    (s.readPage o q).engine.assembly = s.engine.assembly ∧
    (s.readPage o q).array.freeList = s.array.freeList ∧
    (s.readPage o q).array.badTable = s.array.badTable ∧
    (s.readPage o q).array.scan = s.array.scan ∧
    (s.readPage o q).array.erasesLost = s.array.erasesLost ∧
    (s.readPage o q).port.selected = s.port.selected ∧
    (s.readPage o q).port.decoder = s.port.decoder ∧
    (s.readPage o q).port.taken = s.port.taken :=
  by unfold State.readPage; (repeat' split) <;> simp

@[simp] theorem State.retireFloor_frame (s : State) (f : Nat) :
    (s.retireFloor f).pending = s.pending ∧
    (s.retireFloor f).now = s.now ∧
    (s.retireFloor f).resetLow = s.resetLow ∧
    (s.retireFloor f).selLow = s.selLow ∧
    (s.retireFloor f).ctl.stopping = s.ctl.stopping ∧
    (s.retireFloor f).ctl.config = s.ctl.config ∧
    (s.retireFloor f).members.peers = s.members.peers ∧
    (s.retireFloor f).dir.designated = s.dir.designated ∧
    (s.retireFloor f).dir.mark = s.dir.mark ∧
    (s.retireFloor f).line = s.line ∧
    (s.retireFloor f).engine.sending = s.engine.sending ∧
    (s.retireFloor f).engine.assembly = s.engine.assembly ∧
    (s.retireFloor f).array.freeList = s.array.freeList ∧
    (s.retireFloor f).array.badTable = s.array.badTable ∧
    (s.retireFloor f).array.scan = s.array.scan ∧
    (s.retireFloor f).array.erasesLost = s.array.erasesLost ∧
    (s.retireFloor f).port.selected = s.port.selected ∧
    (s.retireFloor f).port.decoder = s.port.decoder ∧
    (s.retireFloor f).port.taken = s.port.taken ∧
    (s.retireFloor f).port.readKey = s.port.readKey :=
  by unfold State.retireFloor; (repeat' split) <;> simp

@[simp] theorem State.writeRecord_frame (s : State) (record : List Byte) :
    (s.writeRecord record).pending = s.pending ∧
    (s.writeRecord record).now = s.now ∧
    (s.writeRecord record).resetLow = s.resetLow ∧
    (s.writeRecord record).selLow = s.selLow ∧
    (s.writeRecord record).ctl = s.ctl ∧
    (s.writeRecord record).members = s.members ∧
    (s.writeRecord record).dir = s.dir ∧
    (s.writeRecord record).repl = s.repl ∧
    (s.writeRecord record).line = s.line ∧
    (s.writeRecord record).engine = s.engine ∧
    (s.writeRecord record).array.blocks = s.array.blocks ∧
    (s.writeRecord record).array.freeList = s.array.freeList ∧
    (s.writeRecord record).array.badTable = s.array.badTable ∧
    (s.writeRecord record).array.nextStamp = s.array.nextStamp ∧
    (s.writeRecord record).array.failure = s.array.failure ∧
    (s.writeRecord record).array.reclaim = s.array.reclaim ∧
    (s.writeRecord record).array.full = s.array.full ∧
    (s.writeRecord record).array.exhausted = s.array.exhausted ∧
    (s.writeRecord record).array.scan = s.array.scan ∧
    (s.writeRecord record).array.erasesLost = s.array.erasesLost ∧
    (s.writeRecord record).retire = s.retire ∧
    (s.writeRecord record).port.selected = s.port.selected ∧
    (s.writeRecord record).port.decoder = s.port.decoder ∧
    (s.writeRecord record).port.taken = s.port.taken ∧
    (s.writeRecord record).port.read = s.port.read ∧
    (s.writeRecord record).port.readKey = s.port.readKey ∧
    (s.writeRecord record).port.readRequested = s.port.readRequested ∧
    (s.writeRecord record).port.readBuffer = s.port.readBuffer ∧
    (s.writeRecord record).port.notices = s.port.notices ∧
    (s.writeRecord record).port.overflow = s.port.overflow ∧
    (s.writeRecord record).port.dropped = s.port.dropped ∧
    (s.writeRecord record).port.attn = s.port.attn :=
  by unfold State.writeRecord; (repeat' split) <;> simp

@[simp] theorem State.lineRises_frame (s : State) :
    s.lineRises.pending = s.pending ∧
    s.lineRises.now = s.now ∧
    s.lineRises.resetLow = s.resetLow ∧
    s.lineRises.selLow = s.selLow ∧
    s.lineRises.ctl = s.ctl ∧
    s.lineRises.members = s.members ∧
    s.lineRises.dir = s.dir ∧
    s.lineRises.repl = s.repl ∧
    s.lineRises.engine = s.engine ∧
    s.lineRises.array = s.array ∧
    s.lineRises.retire = s.retire ∧
    s.lineRises.port = s.port :=
  by unfold State.lineRises; (repeat' split) <;> simp

/-- What data out carries once a command has its response: zeros up to the turnaround byte, then the response (R165). -/
theorem State.sends_response (s : State) (r : Response) (hs : s.selLow = true) (hr : s.resetLow = false)
    (h : s.port.response = some r) :
    (∀ n, n ≤ s.port.decoder.length → s.sends n = some 0) ∧
    (∀ i, s.sends (s.port.decoder.length + 1 + i) = some (r.bytes.getD i 0)) ∧
    (r.clocked = 0 → s.dataOut = some 0) := by
  have z : ∀ n, n ≤ s.port.decoder.length → s.sends n = some 0 := by
    intro n hn; simp [State.sends, hs, hr, h, hn]
  refine ⟨z, fun i => ?_, fun hc => z _ ?_⟩
  · simp [State.sends, hs, hr, h, show ¬ s.port.decoder.length + 1 + i ≤ s.port.decoder.length by omega,
      show s.port.decoder.length + 1 + i - s.port.decoder.length - 1 = i by omega]
  · simp [State.bytesClocked, h, hc]

@[simp] theorem State.lowEnded_frame (s : State) (high width : Nat) :
    (s.lowEnded high width).pending = s.pending ∧
    (s.lowEnded high width).resetLow = s.resetLow ∧
    (s.lowEnded high width).selLow = s.selLow ∧
    (s.lowEnded high width).ctl = s.ctl ∧
    (s.lowEnded high width).members = s.members ∧
    (s.lowEnded high width).dir = s.dir ∧
    (s.lowEnded high width).repl = s.repl ∧
    (s.lowEnded high width).engine = s.engine ∧
    (s.lowEnded high width).array = s.array ∧
    (s.lowEnded high width).retire = s.retire ∧
    (s.lowEnded high width).port = s.port :=
  by unfold State.lowEnded; simp

/-- What a rise of the line leaves: its level and idle count, and with a frame in transmission the release of its last
symbol (R75, R79, R82). -/
theorem State.lineRises_line (s : State) :
    s.lineRises.line = { s.line with high := true, since := s.now, fell := false, idleRef := s.now } ∨
    ∃ x, s.engine.sending = some x ∧ s.transmitting = true ∧
      s.lineRises.line = { s.line with
        high := true, since := s.now, fell := false, idleRef := s.now, driven := false, txSince := s.releaseMoment x } := by
  unfold State.lineRises
  split
  · rename_i x hx
    by_cases h : s.transmitting = true
    · exact .inr ⟨x, hx, h, by simp [h]⟩
    · exact .inl (by simp [h])
  · exact .inl rfl

@[simp] theorem State.highFor_frame (s : State) (time : Nat) :
    (s.highFor time).pending = s.pending ∧
    (s.highFor time).resetLow = s.resetLow ∧
    (s.highFor time).selLow = s.selLow ∧
    (s.highFor time).ctl = s.ctl ∧
    (s.highFor time).members = s.members ∧
    (s.highFor time).dir = s.dir ∧
    (s.highFor time).repl = s.repl ∧
    (s.highFor time).engine = s.engine ∧
    (s.highFor time).array = s.array ∧
    (s.highFor time).retire = s.retire ∧
    (s.highFor time).port = s.port :=
  ⟨rfl, rfl, rfl, rfl, rfl, rfl, rfl, rfl, rfl, rfl, rfl⟩

@[simp] theorem State.lowSince_frame (s : State) (n : Nat) :
    (s.lowSince n).pending = s.pending ∧
    (s.lowSince n).now = s.now ∧
    (s.lowSince n).resetLow = s.resetLow ∧
    (s.lowSince n).selLow = s.selLow ∧
    (s.lowSince n).ctl = s.ctl ∧
    (s.lowSince n).members = s.members ∧
    (s.lowSince n).dir = s.dir ∧
    (s.lowSince n).repl = s.repl ∧
    (s.lowSince n).engine = s.engine ∧
    (s.lowSince n).array = s.array ∧
    (s.lowSince n).retire = s.retire ∧
    (s.lowSince n).port = s.port :=
  ⟨rfl, rfl, rfl, rfl, rfl, rfl, rfl, rfl, rfl, rfl, rfl, rfl⟩

@[simp] theorem State.fallsAfter_frame (s : State) (high : Nat) :
    (s.fallsAfter high).pending = s.pending ∧
    (s.fallsAfter high).resetLow = s.resetLow ∧
    (s.fallsAfter high).selLow = s.selLow ∧
    (s.fallsAfter high).ctl = s.ctl ∧
    (s.fallsAfter high).members = s.members ∧
    (s.fallsAfter high).dir = s.dir ∧
    (s.fallsAfter high).repl = s.repl ∧
    (s.fallsAfter high).engine = s.engine ∧
    (s.fallsAfter high).array = s.array ∧
    (s.fallsAfter high).retire = s.retire ∧
    (s.fallsAfter high).port = s.port :=
  by unfold State.fallsAfter; split <;> simp

@[simp] theorem State.lowHeld_frame (s : State) (n : Nat) :
    (s.lowHeld n).pending = s.pending ∧
    (s.lowHeld n).now = s.now ∧
    (s.lowHeld n).resetLow = s.resetLow ∧
    (s.lowHeld n).selLow = s.selLow ∧
    (s.lowHeld n).ctl = s.ctl ∧
    (s.lowHeld n).members = s.members ∧
    (s.lowHeld n).dir = s.dir ∧
    (s.lowHeld n).repl = s.repl ∧
    (s.lowHeld n).engine = s.engine ∧
    (s.lowHeld n).array = s.array ∧
    (s.lowHeld n).retire = s.retire ∧
    (s.lowHeld n).port = s.port :=
  by unfold State.lowHeld; split <;> simp

/-- What a low under way, or one that begins, leaves of the line (R75). -/
theorem State.lowHeld_line (s : State) (n : Nat) :
    (s.lowHeld n).line = { s.line with
      high := false, since := if s.line.high then s.now - s.sixteenths n else s.line.since
      fell := if s.line.high then false else s.line.fell } := by
  unfold State.lowHeld
  split
  · simp_all [State.lowSince]
  · generalize s.line = l at *
    cases l
    simp_all

@[simp] theorem State.lowOver_frame (s : State) (width : Nat) :
    (s.lowOver width).pending = s.pending ∧
    (s.lowOver width).resetLow = s.resetLow ∧
    (s.lowOver width).selLow = s.selLow ∧
    (s.lowOver width).ctl = s.ctl ∧
    (s.lowOver width).members = s.members ∧
    (s.lowOver width).dir = s.dir ∧
    (s.lowOver width).repl = s.repl ∧
    (s.lowOver width).engine = s.engine ∧
    (s.lowOver width).array = s.array ∧
    (s.lowOver width).retire = s.retire ∧
    (s.lowOver width).port = s.port :=
  by unfold State.lowOver; split <;> simp

@[simp] theorem State.takeBit_frame (s : State) (b : Bool) :
    (s.takeBit b).pending = s.pending ∧
    (s.takeBit b).now = s.now ∧
    (s.takeBit b).resetLow = s.resetLow ∧
    (s.takeBit b).selLow = s.selLow ∧
    (s.takeBit b).ctl = s.ctl ∧
    (s.takeBit b).members = s.members ∧
    (s.takeBit b).dir = s.dir ∧
    (s.takeBit b).repl = s.repl ∧
    (s.takeBit b).engine.queue = s.engine.queue ∧
    (s.takeBit b).engine.sending = s.engine.sending ∧
    (s.takeBit b).engine.staging = s.engine.staging ∧
    (s.takeBit b).array = s.array ∧
    (s.takeBit b).retire = s.retire ∧
    (s.takeBit b).port = s.port :=
  ⟨rfl, rfl, rfl, rfl, rfl, rfl, rfl, rfl, rfl, rfl, rfl, rfl, rfl, rfl⟩

@[simp] theorem State.discardFrame_frame (s : State) :
    s.discardFrame.pending = s.pending ∧
    s.discardFrame.now = s.now ∧
    s.discardFrame.resetLow = s.resetLow ∧
    s.discardFrame.selLow = s.selLow ∧
    s.discardFrame.ctl = s.ctl ∧
    s.discardFrame.members = s.members ∧
    s.discardFrame.dir = s.dir ∧
    s.discardFrame.repl = s.repl ∧
    s.discardFrame.engine.queue = s.engine.queue ∧
    s.discardFrame.engine.sending = s.engine.sending ∧
    s.discardFrame.engine.staging = s.engine.staging ∧
    s.discardFrame.array = s.array ∧
    s.discardFrame.retire = s.retire ∧
    s.discardFrame.port = s.port :=
  ⟨rfl, rfl, rfl, rfl, rfl, rfl, rfl, rfl, rfl, rfl, rfl, rfl, rfl, rfl⟩

@[simp] theorem State.failReception_frame (s : State) :
    s.failReception.pending = s.pending ∧
    s.failReception.now = s.now ∧
    s.failReception.resetLow = s.resetLow ∧
    s.failReception.selLow = s.selLow ∧
    s.failReception.ctl = s.ctl ∧
    s.failReception.members = s.members ∧
    s.failReception.dir = s.dir ∧
    s.failReception.repl = s.repl ∧
    s.failReception.engine.queue = s.engine.queue ∧
    s.failReception.engine.sending = s.engine.sending ∧
    s.failReception.engine.staging = s.engine.staging ∧
    s.failReception.array = s.array ∧
    s.failReception.retire = s.retire ∧
    s.failReception.port = s.port :=
  ⟨rfl, rfl, rfl, rfl, rfl, rfl, rfl, rfl, rfl, rfl, rfl, rfl, rfl, rfl⟩

@[simp] theorem State.symbolLevel_frame (s : State) (f : SymbolFault) :
    (s.symbolLevel f).pending = s.pending ∧
    (s.symbolLevel f).resetLow = s.resetLow ∧
    (s.symbolLevel f).selLow = s.selLow ∧
    (s.symbolLevel f).ctl = s.ctl ∧
    (s.symbolLevel f).members = s.members ∧
    (s.symbolLevel f).dir = s.dir ∧
    (s.symbolLevel f).repl = s.repl ∧
    (s.symbolLevel f).engine = s.engine ∧
    (s.symbolLevel f).array = s.array ∧
    (s.symbolLevel f).retire = s.retire ∧
    (s.symbolLevel f).port = s.port :=
  by unfold State.symbolLevel; (repeat' split) <;> simp

@[simp] theorem State.afterValid_frame (s : State) (m : Message) (gap : Nat) :
    (s.afterValid m gap).pending = s.pending ∧
    (s.afterValid m gap).now = s.now ∧
    (s.afterValid m gap).resetLow = s.resetLow ∧
    (s.afterValid m gap).selLow = s.selLow ∧
    (s.afterValid m gap).ctl = s.ctl ∧
    (s.afterValid m gap).members = s.members ∧
    (s.afterValid m gap).dir = s.dir ∧
    (s.afterValid m gap).repl = s.repl ∧
    (s.afterValid m gap).engine.queue = s.engine.queue ∧
    (s.afterValid m gap).engine.sending = s.engine.sending ∧
    (s.afterValid m gap).engine.staging = s.engine.staging ∧
    (s.afterValid m gap).array = s.array ∧
    (s.afterValid m gap).retire = s.retire ∧
    (s.afterValid m gap).port = s.port :=
  by unfold State.afterValid; simp; (repeat' split) <;> simp

@[simp] theorem State.beginFrame_frame (s : State) (e : TxEntry) (fallen : Nat) :
    (s.beginFrame e fallen).pending = s.pending ∧
    (s.beginFrame e fallen).now = s.now ∧
    (s.beginFrame e fallen).resetLow = s.resetLow ∧
    (s.beginFrame e fallen).selLow = s.selLow ∧
    (s.beginFrame e fallen).ctl = s.ctl ∧
    (s.beginFrame e fallen).members = s.members ∧
    (s.beginFrame e fallen).dir = s.dir ∧
    (s.beginFrame e fallen).repl = s.repl ∧
    (s.beginFrame e fallen).engine.queue = s.engine.queue ∧
    (s.beginFrame e fallen).engine.staging = s.engine.staging ∧
    (s.beginFrame e fallen).engine.assembly = s.engine.assembly ∧
    (s.beginFrame e fallen).array = s.array ∧
    (s.beginFrame e fallen).retire = s.retire ∧
    (s.beginFrame e fallen).port = s.port :=
  ⟨rfl, rfl, rfl, rfl, rfl, rfl, rfl, rfl, rfl, rfl, rfl, rfl, rfl, rfl⟩

@[simp] theorem State.driveBit_frame (s : State) (x : Sending) (b : Bool) (rest : List Bool) :
    (s.driveBit x b rest).pending = s.pending ∧
    (s.driveBit x b rest).resetLow = s.resetLow ∧
    (s.driveBit x b rest).selLow = s.selLow ∧
    (s.driveBit x b rest).ctl = s.ctl ∧
    (s.driveBit x b rest).members = s.members ∧
    (s.driveBit x b rest).dir = s.dir ∧
    (s.driveBit x b rest).repl = s.repl ∧
    (s.driveBit x b rest).engine.queue = s.engine.queue ∧
    (s.driveBit x b rest).engine.staging = s.engine.staging ∧
    (s.driveBit x b rest).engine.assembly = s.engine.assembly ∧
    (s.driveBit x b rest).array = s.array ∧
    (s.driveBit x b rest).retire = s.retire ∧
    (s.driveBit x b rest).port = s.port :=
  ⟨rfl, rfl, rfl, rfl, rfl, rfl, rfl, rfl, rfl, rfl, rfl, rfl, rfl⟩

@[simp] theorem State.releaseLast_frame (s : State) (x : Sending) :
    (s.releaseLast x).pending = s.pending ∧
    (s.releaseLast x).resetLow = s.resetLow ∧
    (s.releaseLast x).selLow = s.selLow ∧
    (s.releaseLast x).ctl = s.ctl ∧
    (s.releaseLast x).members = s.members ∧
    (s.releaseLast x).dir = s.dir ∧
    (s.releaseLast x).repl = s.repl ∧
    (s.releaseLast x).engine = s.engine ∧
    (s.releaseLast x).array = s.array ∧
    (s.releaseLast x).retire = s.retire ∧
    (s.releaseLast x).port = s.port :=
  ⟨rfl, rfl, rfl, rfl, rfl, rfl, rfl, rfl, rfl, rfl, rfl⟩

@[simp] theorem State.publishCut_frame (s : State) (t : TxTarget) :
    (s.publishCut t).pending = s.pending ∧
    (s.publishCut t).now = s.now ∧
    (s.publishCut t).resetLow = s.resetLow ∧
    (s.publishCut t).selLow = s.selLow ∧
    (s.publishCut t).ctl = s.ctl ∧
    (s.publishCut t).members = s.members ∧
    (s.publishCut t).dir = s.dir ∧
    (s.publishCut t).repl.landing = s.repl.landing ∧
    (s.publishCut t).repl.wants = s.repl.wants ∧
    (s.publishCut t).repl.fetch = s.repl.fetch ∧
    (s.publishCut t).line = s.line ∧
    (s.publishCut t).engine = s.engine ∧
    (s.publishCut t).array = s.array ∧
    (s.publishCut t).retire = s.retire ∧
    (s.publishCut t).port.selected = s.port.selected ∧
    (s.publishCut t).port.decoder = s.port.decoder ∧
    (s.publishCut t).port.taken = s.port.taken ∧
    (s.publishCut t).port.response = s.port.response ∧
    (s.publishCut t).port.read = s.port.read ∧
    (s.publishCut t).port.readKey = s.port.readKey ∧
    (s.publishCut t).port.readRequested = s.port.readRequested ∧
    (s.publishCut t).port.readBuffer = s.port.readBuffer :=
  by unfold State.publishCut; (repeat' split) <;> simp

@[simp] theorem State.cutTransmission_frame (s : State) (x : Sending) :
    (s.cutTransmission x).pending = s.pending ∧
    (s.cutTransmission x).now = s.now ∧
    (s.cutTransmission x).resetLow = s.resetLow ∧
    (s.cutTransmission x).selLow = s.selLow ∧
    (s.cutTransmission x).ctl = s.ctl ∧
    (s.cutTransmission x).members = s.members ∧
    (s.cutTransmission x).dir = s.dir ∧
    (s.cutTransmission x).repl.landing = s.repl.landing ∧
    (s.cutTransmission x).repl.wants = s.repl.wants ∧
    (s.cutTransmission x).repl.fetch = s.repl.fetch ∧
    (s.cutTransmission x).engine.assembly = s.engine.assembly ∧
    (s.cutTransmission x).array = s.array ∧
    (s.cutTransmission x).retire = s.retire ∧
    (s.cutTransmission x).port.selected = s.port.selected ∧
    (s.cutTransmission x).port.decoder = s.port.decoder ∧
    (s.cutTransmission x).port.taken = s.port.taken ∧
    (s.cutTransmission x).port.response = s.port.response ∧
    (s.cutTransmission x).port.read = s.port.read ∧
    (s.cutTransmission x).port.readKey = s.port.readKey ∧
    (s.cutTransmission x).port.readRequested = s.port.readRequested ∧
    (s.cutTransmission x).port.readBuffer = s.port.readBuffer :=
  by unfold State.cutTransmission; simp; (repeat' split) <;> simp

/-- What a transmission that is lost or disturbed leaves of the line: released, low, and its idle count 0 (R79, R85,
R86). -/
theorem State.cutTransmission_line (s : State) (x : Sending) :
    (s.cutTransmission x).line = { s.line with fell := s.line.high, tx := .quiet, driven := false, txSince := s.now } ∧
    (s.cutTransmission x).level = false ∧ (s.cutTransmission x).idleCount = 0 := by
  have h : (s.cutTransmission x).line =
      { s.line with fell := s.line.high, tx := .quiet, driven := false, txSince := s.now } := by
    unfold State.cutTransmission; simp; (repeat' split) <;> simp
  have l : (s.cutTransmission x).level = false := by simp [State.level, Line.up, h]
  exact ⟨h, l, by simp [State.idleCount, l]⟩

/-- A START being driven holds the line low: its idle count is 0 (R79, R84). -/
theorem State.beginFrame_idleCount (s : State) (e : TxEntry) (fallen : Nat) :
    (s.beginFrame e fallen).level = false ∧ (s.beginFrame e fallen).idleCount = 0 := by
  simp [State.beginFrame, State.level, Line.up, State.idleCount]

@[simp] theorem State.wantsSent_frame (s : State) (o : Station) (first count gap : Nat) :
    (s.wantsSent o first count gap).pending = s.pending ∧
    (s.wantsSent o first count gap).now = s.now ∧
    (s.wantsSent o first count gap).resetLow = s.resetLow ∧
    (s.wantsSent o first count gap).selLow = s.selLow ∧
    (s.wantsSent o first count gap).ctl = s.ctl ∧
    (s.wantsSent o first count gap).members = s.members ∧
    (s.wantsSent o first count gap).dir = s.dir ∧
    (s.wantsSent o first count gap).repl.publish = s.repl.publish ∧
    (s.wantsSent o first count gap).repl.landing = s.repl.landing ∧
    (s.wantsSent o first count gap).repl.fetch = s.repl.fetch ∧
    (s.wantsSent o first count gap).line = s.line ∧
    (s.wantsSent o first count gap).engine = s.engine ∧
    (s.wantsSent o first count gap).array = s.array ∧
    (s.wantsSent o first count gap).retire = s.retire ∧
    (s.wantsSent o first count gap).port = s.port :=
  ⟨rfl, rfl, rfl, rfl, rfl, rfl, rfl, rfl, rfl, rfl, rfl, rfl, rfl, rfl, rfl⟩

@[simp] theorem State.fetchSent_frame (s : State) (k : Key) (gap : Nat) :
    (s.fetchSent k gap).pending = s.pending ∧
    (s.fetchSent k gap).now = s.now ∧
    (s.fetchSent k gap).resetLow = s.resetLow ∧
    (s.fetchSent k gap).selLow = s.selLow ∧
    (s.fetchSent k gap).ctl = s.ctl ∧
    (s.fetchSent k gap).members = s.members ∧
    (s.fetchSent k gap).dir = s.dir ∧
    (s.fetchSent k gap).repl.publish = s.repl.publish ∧
    (s.fetchSent k gap).repl.landing = s.repl.landing ∧
    (s.fetchSent k gap).repl.wants = s.repl.wants ∧
    (s.fetchSent k gap).line = s.line ∧
    (s.fetchSent k gap).engine = s.engine ∧
    (s.fetchSent k gap).array = s.array ∧
    (s.fetchSent k gap).retire = s.retire ∧
    (s.fetchSent k gap).port = s.port :=
  by unfold State.fetchSent; (repeat' split) <;> simp

@[simp] theorem State.toldSent_frame (s : State) (e : TxEntry) (gap : Nat) :
    (s.toldSent e gap).pending = s.pending ∧
    (s.toldSent e gap).now = s.now ∧
    (s.toldSent e gap).resetLow = s.resetLow ∧
    (s.toldSent e gap).selLow = s.selLow ∧
    (s.toldSent e gap).ctl = s.ctl ∧
    (s.toldSent e gap).members = s.members ∧
    (s.toldSent e gap).dir = s.dir ∧
    (s.toldSent e gap).repl.landing = s.repl.landing ∧
    (s.toldSent e gap).line = s.line ∧
    (s.toldSent e gap).engine = s.engine ∧
    (s.toldSent e gap).array = s.array ∧
    (s.toldSent e gap).retire = s.retire ∧
    (s.toldSent e gap).port = s.port :=
  by unfold State.toldSent; (repeat' split) <;> simp

@[simp] theorem State.leaveSent_frame (s : State) (e : TxEntry) (gap : Nat) :
    (s.leaveSent e gap).pending = s.pending ∧
    (s.leaveSent e gap).now = s.now ∧
    (s.leaveSent e gap).resetLow = s.resetLow ∧
    (s.leaveSent e gap).selLow = s.selLow ∧
    (s.leaveSent e gap).ctl = s.ctl ∧
    (s.leaveSent e gap).members = s.members ∧
    (s.leaveSent e gap).dir = s.dir ∧
    (s.leaveSent e gap).repl.landing = s.repl.landing ∧
    (s.leaveSent e gap).line = s.line ∧
    (s.leaveSent e gap).engine.sending = s.engine.sending ∧
    (s.leaveSent e gap).engine.assembly = s.engine.assembly ∧
    (s.leaveSent e gap).array = s.array ∧
    (s.leaveSent e gap).retire = s.retire ∧
    (s.leaveSent e gap).port = s.port :=
  by unfold State.leaveSent; (repeat' split) <;> simp

@[simp] theorem State.afterOwn_frame (s : State) (kind : FrameKind) (gap : Nat) :
    (s.afterOwn kind gap).pending = s.pending ∧
    (s.afterOwn kind gap).now = s.now ∧
    (s.afterOwn kind gap).resetLow = s.resetLow ∧
    (s.afterOwn kind gap).selLow = s.selLow ∧
    (s.afterOwn kind gap).ctl = s.ctl ∧
    (s.afterOwn kind gap).members = s.members ∧
    (s.afterOwn kind gap).dir = s.dir ∧
    (s.afterOwn kind gap).repl = s.repl ∧
    (s.afterOwn kind gap).engine.queue = s.engine.queue ∧
    (s.afterOwn kind gap).engine.sending = s.engine.sending ∧
    (s.afterOwn kind gap).engine.staging = s.engine.staging ∧
    (s.afterOwn kind gap).array = s.array ∧
    (s.afterOwn kind gap).retire = s.retire ∧
    (s.afterOwn kind gap).port = s.port :=
  by unfold State.afterOwn; simp; (repeat' split) <;> simp

@[simp] theorem State.sentToEnd_frame (s : State) (x : Sending) (gap : Nat) :
    (s.sentToEnd x gap).pending = s.pending ∧
    (s.sentToEnd x gap).now = s.now ∧
    (s.sentToEnd x gap).resetLow = s.resetLow ∧
    (s.sentToEnd x gap).selLow = s.selLow ∧
    (s.sentToEnd x gap).ctl = s.ctl ∧
    (s.sentToEnd x gap).members = s.members ∧
    (s.sentToEnd x gap).dir = s.dir ∧
    (s.sentToEnd x gap).repl.landing = s.repl.landing ∧
    (s.sentToEnd x gap).array = s.array ∧
    (s.sentToEnd x gap).retire = s.retire ∧
    (s.sentToEnd x gap).port = s.port :=
  by unfold State.sentToEnd; simp; (repeat' split) <;> simp

@[simp] theorem State.handOver_frame (s : State) (w : Window) :
    (s.handOver w).pending = s.pending ∧
    (s.handOver w).now = s.now ∧
    (s.handOver w).resetLow = s.resetLow ∧
    (s.handOver w).selLow = s.selLow ∧
    (s.handOver w).ctl = s.ctl ∧
    (s.handOver w).members = s.members ∧
    (s.handOver w).dir = s.dir ∧
    (s.handOver w).repl.landing = s.repl.landing ∧
    (s.handOver w).repl.wants = s.repl.wants ∧
    (s.handOver w).repl.fetch = s.repl.fetch ∧
    (s.handOver w).line = s.line ∧
    (s.handOver w).engine.sending = s.engine.sending ∧
    (s.handOver w).engine.staging = s.engine.staging ∧
    (s.handOver w).engine.assembly = s.engine.assembly ∧
    (s.handOver w).array = s.array ∧
    (s.handOver w).retire = s.retire ∧
    (s.handOver w).port.selected = s.port.selected ∧
    (s.handOver w).port.decoder = s.port.decoder ∧
    (s.handOver w).port.taken = s.port.taken ∧
    (s.handOver w).port.response = s.port.response ∧
    (s.handOver w).port.read = s.port.read ∧
    (s.handOver w).port.readKey = s.port.readKey ∧
    (s.handOver w).port.readRequested = s.port.readRequested ∧
    (s.handOver w).port.readBuffer = s.port.readBuffer :=
  by unfold State.handOver; (repeat' split) <;> simp

@[simp] theorem State.breakWindow_frame (s : State) :
    s.breakWindow.pending = s.pending ∧
    s.breakWindow.now = s.now ∧
    s.breakWindow.resetLow = s.resetLow ∧
    s.breakWindow.selLow = s.selLow ∧
    s.breakWindow.ctl = s.ctl ∧
    s.breakWindow.members = s.members ∧
    s.breakWindow.dir = s.dir ∧
    s.breakWindow.repl.landing = s.repl.landing ∧
    s.breakWindow.repl.wants = s.repl.wants ∧
    s.breakWindow.repl.fetch = s.repl.fetch ∧
    s.breakWindow.engine.sending = s.engine.sending ∧
    s.breakWindow.engine.staging = s.engine.staging ∧
    s.breakWindow.engine.assembly = s.engine.assembly ∧
    s.breakWindow.array = s.array ∧
    s.breakWindow.retire = s.retire ∧
    s.breakWindow.port.selected = s.port.selected ∧
    s.breakWindow.port.decoder = s.port.decoder ∧
    s.breakWindow.port.taken = s.port.taken ∧
    s.breakWindow.port.response = s.port.response ∧
    s.breakWindow.port.read = s.port.read ∧
    s.breakWindow.port.readKey = s.port.readKey ∧
    s.breakWindow.port.readRequested = s.port.readRequested ∧
    s.breakWindow.port.readBuffer = s.port.readBuffer :=
  by unfold State.breakWindow; (repeat' split) <;> simp

@[simp] theorem State.goSilent_frame (s : State) (p : Station) :
    (s.goSilent p).pending = s.pending ∧
    (s.goSilent p).now = s.now ∧
    (s.goSilent p).resetLow = s.resetLow ∧
    (s.goSilent p).selLow = s.selLow ∧
    (s.goSilent p).ctl.stopping = s.ctl.stopping ∧
    (s.goSilent p).ctl.config = s.ctl.config ∧
    (s.goSilent p).dir.designated = s.dir.designated ∧
    (s.goSilent p).dir.mark = s.dir.mark ∧
    (s.goSilent p).line = s.line ∧
    (s.goSilent p).engine.sending = s.engine.sending ∧
    (s.goSilent p).engine.assembly = s.engine.assembly ∧
    (s.goSilent p).array.freeList = s.array.freeList ∧
    (s.goSilent p).array.badTable = s.array.badTable ∧
    (s.goSilent p).array.scan = s.array.scan ∧
    (s.goSilent p).array.erasesLost = s.array.erasesLost ∧
    (s.goSilent p).port.selected = s.port.selected ∧
    (s.goSilent p).port.decoder = s.port.decoder ∧
    (s.goSilent p).port.taken = s.port.taken ∧
    (s.goSilent p).port.response = s.port.response ∧
    (s.goSilent p).port.readKey = s.port.readKey :=
  by unfold State.goSilent; (repeat' split) <;> simp

@[simp] theorem State.requestBeacon_frame (s : State) :
    s.requestBeacon.pending = s.pending ∧
    s.requestBeacon.now = s.now ∧
    s.requestBeacon.resetLow = s.resetLow ∧
    s.requestBeacon.selLow = s.selLow ∧
    s.requestBeacon.ctl = s.ctl ∧
    s.requestBeacon.members = s.members ∧
    s.requestBeacon.dir = s.dir ∧
    s.requestBeacon.repl = s.repl ∧
    s.requestBeacon.line = s.line ∧
    s.requestBeacon.engine.sending = s.engine.sending ∧
    s.requestBeacon.engine.staging = s.engine.staging ∧
    s.requestBeacon.engine.assembly = s.engine.assembly ∧
    s.requestBeacon.array = s.array ∧
    s.requestBeacon.retire = s.retire ∧
    s.requestBeacon.port = s.port :=
  by and_intros <;> first | rfl | (unfold State.requestBeacon; (try simp); repeat' (first | rfl | (simp; done) | (simp [State.cfg, State.self, State.org, State.standin]; done) | split))

@[simp] theorem State.enterJoining_frame (s : State) :
    s.enterJoining.pending = s.pending ∧
    s.enterJoining.now = s.now ∧
    s.enterJoining.resetLow = s.resetLow ∧
    s.enterJoining.selLow = s.selLow ∧
    s.enterJoining.ctl.stopping = s.ctl.stopping ∧
    s.enterJoining.ctl.config = s.ctl.config ∧
    s.enterJoining.members.peers = s.members.peers ∧
    s.enterJoining.dir.designated = s.dir.designated ∧
    s.enterJoining.dir.mark = s.dir.mark ∧
    s.enterJoining.line = s.line ∧
    s.enterJoining.engine.sending = s.engine.sending ∧
    s.enterJoining.engine.assembly = s.engine.assembly ∧
    s.enterJoining.array.freeList = s.array.freeList ∧
    s.enterJoining.array.badTable = s.array.badTable ∧
    s.enterJoining.array.scan = s.array.scan ∧
    s.enterJoining.array.erasesLost = s.array.erasesLost ∧
    s.enterJoining.port.selected = s.port.selected ∧
    s.enterJoining.port.decoder = s.port.decoder ∧
    s.enterJoining.port.taken = s.port.taken ∧
    s.enterJoining.port.response = s.port.response ∧
    s.enterJoining.port.readKey = s.port.readKey :=
  by unfold State.enterJoining; (repeat' split) <;> simp

@[simp] theorem State.joinLimit_frame (s : State) :
    s.joinLimit.pending = s.pending ∧
    s.joinLimit.now = s.now ∧
    s.joinLimit.resetLow = s.resetLow ∧
    s.joinLimit.selLow = s.selLow ∧
    s.joinLimit.ctl.stopping = s.ctl.stopping ∧
    s.joinLimit.ctl.config = s.ctl.config ∧
    s.joinLimit.members.peers = s.members.peers ∧
    s.joinLimit.dir.designated = s.dir.designated ∧
    s.joinLimit.dir.mark = s.dir.mark ∧
    s.joinLimit.line = s.line ∧
    s.joinLimit.engine.sending = s.engine.sending ∧
    s.joinLimit.engine.assembly = s.engine.assembly ∧
    s.joinLimit.array.freeList = s.array.freeList ∧
    s.joinLimit.array.badTable = s.array.badTable ∧
    s.joinLimit.array.scan = s.array.scan ∧
    s.joinLimit.array.erasesLost = s.array.erasesLost ∧
    s.joinLimit.port.selected = s.port.selected ∧
    s.joinLimit.port.decoder = s.port.decoder ∧
    s.joinLimit.port.taken = s.port.taken ∧
    s.joinLimit.port.response = s.port.response ∧
    s.joinLimit.port.readKey = s.port.readKey :=
  by unfold State.joinLimit; (repeat' split) <;> simp

@[simp] theorem State.wantsExpire_frame (s : State) (t : Nat) :
    (s.wantsExpire t).pending = s.pending ∧
    (s.wantsExpire t).now = s.now ∧
    (s.wantsExpire t).resetLow = s.resetLow ∧
    (s.wantsExpire t).selLow = s.selLow ∧
    (s.wantsExpire t).ctl = s.ctl ∧
    (s.wantsExpire t).members = s.members ∧
    (s.wantsExpire t).dir = s.dir ∧
    (s.wantsExpire t).repl.publish = s.repl.publish ∧
    (s.wantsExpire t).repl.landing = s.repl.landing ∧
    (s.wantsExpire t).repl.fetch = s.repl.fetch ∧
    (s.wantsExpire t).line = s.line ∧
    (s.wantsExpire t).engine = s.engine ∧
    (s.wantsExpire t).array = s.array ∧
    (s.wantsExpire t).retire = s.retire ∧
    (s.wantsExpire t).port.selected = s.port.selected ∧
    (s.wantsExpire t).port.decoder = s.port.decoder ∧
    (s.wantsExpire t).port.taken = s.port.taken ∧
    (s.wantsExpire t).port.response = s.port.response ∧
    (s.wantsExpire t).port.read = s.port.read ∧
    (s.wantsExpire t).port.readKey = s.port.readKey ∧
    (s.wantsExpire t).port.readRequested = s.port.readRequested ∧
    (s.wantsExpire t).port.readBuffer = s.port.readBuffer :=
  by
    simp only [State.wantsExpire, List.foldl_eq_foldr_reverse]
    generalize (s.repl.wants.filter fun w => w.expired t && 6 ≤ w.asks).reverse = l
    induction l with
    | nil => simp
    | cons w l ih => simpa using ih

@[simp] theorem State.fetchExpires_frame (s : State) (f : Fetch) :
    (s.fetchExpires f).pending = s.pending ∧
    (s.fetchExpires f).now = s.now ∧
    (s.fetchExpires f).resetLow = s.resetLow ∧
    (s.fetchExpires f).selLow = s.selLow ∧
    (s.fetchExpires f).ctl = s.ctl ∧
    (s.fetchExpires f).members = s.members ∧
    (s.fetchExpires f).dir = s.dir ∧
    (s.fetchExpires f).repl.publish = s.repl.publish ∧
    (s.fetchExpires f).repl.landing = s.repl.landing ∧
    (s.fetchExpires f).repl.wants = s.repl.wants ∧
    (s.fetchExpires f).line = s.line ∧
    (s.fetchExpires f).engine.sending = s.engine.sending ∧
    (s.fetchExpires f).engine.staging = s.engine.staging ∧
    (s.fetchExpires f).engine.assembly = s.engine.assembly ∧
    (s.fetchExpires f).array = s.array ∧
    (s.fetchExpires f).retire = s.retire ∧
    (s.fetchExpires f).port.selected = s.port.selected ∧
    (s.fetchExpires f).port.decoder = s.port.decoder ∧
    (s.fetchExpires f).port.taken = s.port.taken ∧
    (s.fetchExpires f).port.response = s.port.response ∧
    (s.fetchExpires f).port.readKey = s.port.readKey :=
  by unfold State.fetchExpires; (repeat' split) <;> simp

@[simp] theorem State.markWeak_frame (s : State) (l : Loc) (bad : Bool) :
    (s.markWeak l bad).pending = s.pending ∧
    (s.markWeak l bad).now = s.now ∧
    (s.markWeak l bad).resetLow = s.resetLow ∧
    (s.markWeak l bad).selLow = s.selLow ∧
    (s.markWeak l bad).ctl = s.ctl ∧
    (s.markWeak l bad).members = s.members ∧
    (s.markWeak l bad).dir = s.dir ∧
    (s.markWeak l bad).repl = s.repl ∧
    (s.markWeak l bad).line = s.line ∧
    (s.markWeak l bad).engine = s.engine ∧
    (s.markWeak l bad).array.flash = s.array.flash ∧
    (s.markWeak l bad).array.freeList = s.array.freeList ∧
    (s.markWeak l bad).array.badTable = s.array.badTable ∧
    (s.markWeak l bad).array.nextStamp = s.array.nextStamp ∧
    (s.markWeak l bad).array.running = s.array.running ∧
    (s.markWeak l bad).array.failure = s.array.failure ∧
    (s.markWeak l bad).array.reclaim = s.array.reclaim ∧
    (s.markWeak l bad).array.full = s.array.full ∧
    (s.markWeak l bad).array.exhausted = s.array.exhausted ∧
    (s.markWeak l bad).array.scan = s.array.scan ∧
    (s.markWeak l bad).array.erasesLost = s.array.erasesLost ∧
    (s.markWeak l bad).retire = s.retire ∧
    (s.markWeak l bad).port = s.port :=
  by unfold State.markWeak; (repeat' split) <;> simp

@[simp] theorem State.discardRead_frame (s : State) (src : Source) :
    (s.discardRead src).pending = s.pending ∧
    (s.discardRead src).now = s.now ∧
    (s.discardRead src).resetLow = s.resetLow ∧
    (s.discardRead src).selLow = s.selLow ∧
    (s.discardRead src).ctl = s.ctl ∧
    (s.discardRead src).members = s.members ∧
    (s.discardRead src).dir = s.dir ∧
    (s.discardRead src).repl = s.repl ∧
    (s.discardRead src).line = s.line ∧
    (s.discardRead src).array = s.array ∧
    (s.discardRead src).retire = s.retire ∧
    (s.discardRead src).port = s.port ∧
    (s.discardRead src).engine.queue = s.engine.queue ∧
    (s.discardRead src).engine.sending = s.engine.sending ∧
    (s.discardRead src).engine.assembly = s.engine.assembly :=
  by unfold State.discardRead; split <;> simp

@[simp] theorem State.stagingDone_frame (s : State) (k : Key) (r : Option (PageHeader × List Byte)) :
    (s.stagingDone k r).pending = s.pending ∧
    (s.stagingDone k r).now = s.now ∧
    (s.stagingDone k r).resetLow = s.resetLow ∧
    (s.stagingDone k r).selLow = s.selLow ∧
    (s.stagingDone k r).ctl = s.ctl ∧
    (s.stagingDone k r).members = s.members ∧
    (s.stagingDone k r).dir = s.dir ∧
    (s.stagingDone k r).repl = s.repl ∧
    (s.stagingDone k r).line = s.line ∧
    (s.stagingDone k r).engine.sending = s.engine.sending ∧
    (s.stagingDone k r).engine.assembly = s.engine.assembly ∧
    (s.stagingDone k r).array = s.array ∧
    (s.stagingDone k r).retire = s.retire ∧
    (s.stagingDone k r).port = s.port :=
  by unfold State.stagingDone; (repeat' split) <;> simp

@[simp] theorem State.hostReleased_frame (s : State) (k : Key) :
    (s.hostReleased k).pending = s.pending ∧
    (s.hostReleased k).now = s.now ∧
    (s.hostReleased k).resetLow = s.resetLow ∧
    (s.hostReleased k).selLow = s.selLow ∧
    (s.hostReleased k).ctl = s.ctl ∧
    (s.hostReleased k).members = s.members ∧
    (s.hostReleased k).dir = s.dir ∧
    (s.hostReleased k).repl.publish = s.repl.publish ∧
    (s.hostReleased k).repl.landing = s.repl.landing ∧
    (s.hostReleased k).repl.wants = s.repl.wants ∧
    (s.hostReleased k).line = s.line ∧
    (s.hostReleased k).engine.sending = s.engine.sending ∧
    (s.hostReleased k).engine.staging = s.engine.staging ∧
    (s.hostReleased k).engine.assembly = s.engine.assembly ∧
    (s.hostReleased k).array = s.array ∧
    (s.hostReleased k).retire = s.retire ∧
    (s.hostReleased k).port.selected = s.port.selected ∧
    (s.hostReleased k).port.decoder = s.port.decoder ∧
    (s.hostReleased k).port.taken = s.port.taken ∧
    (s.hostReleased k).port.response = s.port.response ∧
    (s.hostReleased k).port.readKey = s.port.readKey :=
  by unfold State.hostReleased; (repeat' split) <;> simp

@[simp] theorem State.fillCopy_frame (s : State) (src : Source) (item : ProgItem) :
    (s.fillCopy src item).pending = s.pending ∧
    (s.fillCopy src item).now = s.now ∧
    (s.fillCopy src item).resetLow = s.resetLow ∧
    (s.fillCopy src item).selLow = s.selLow ∧
    (s.fillCopy src item).ctl = s.ctl ∧
    (s.fillCopy src item).members = s.members ∧
    (s.fillCopy src item).dir = s.dir ∧
    (s.fillCopy src item).repl = s.repl ∧
    (s.fillCopy src item).line = s.line ∧
    (s.fillCopy src item).engine = s.engine ∧
    (s.fillCopy src item).array.flash = s.array.flash ∧
    (s.fillCopy src item).array.blocks = s.array.blocks ∧
    (s.fillCopy src item).array.freeList = s.array.freeList ∧
    (s.fillCopy src item).array.badTable = s.array.badTable ∧
    (s.fillCopy src item).array.nextStamp = s.array.nextStamp ∧
    (s.fillCopy src item).array.running = s.array.running ∧
    (s.fillCopy src item).array.full = s.array.full ∧
    (s.fillCopy src item).array.exhausted = s.array.exhausted ∧
    (s.fillCopy src item).array.scan = s.array.scan ∧
    (s.fillCopy src item).array.erasesLost = s.array.erasesLost ∧
    (s.fillCopy src item).retire = s.retire ∧
    (s.fillCopy src item).port = s.port :=
  by unfold State.fillCopy; (repeat' split) <;> simp

@[simp] theorem State.passSlot_frame (s : State) (src : Source) (l : Loc) :
    (s.passSlot src l).pending = s.pending ∧
    (s.passSlot src l).now = s.now ∧
    (s.passSlot src l).resetLow = s.resetLow ∧
    (s.passSlot src l).selLow = s.selLow ∧
    (s.passSlot src l).ctl = s.ctl ∧
    (s.passSlot src l).members = s.members ∧
    (s.passSlot src l).dir = s.dir ∧
    (s.passSlot src l).repl = s.repl ∧
    (s.passSlot src l).line = s.line ∧
    (s.passSlot src l).engine = s.engine ∧
    (s.passSlot src l).array.flash = s.array.flash ∧
    (s.passSlot src l).array.blocks = s.array.blocks ∧
    (s.passSlot src l).array.freeList = s.array.freeList ∧
    (s.passSlot src l).array.badTable = s.array.badTable ∧
    (s.passSlot src l).array.nextStamp = s.array.nextStamp ∧
    (s.passSlot src l).array.running = s.array.running ∧
    (s.passSlot src l).array.failure = s.array.failure ∧
    (s.passSlot src l).array.full = s.array.full ∧
    (s.passSlot src l).array.exhausted = s.array.exhausted ∧
    (s.passSlot src l).array.scan = s.array.scan ∧
    (s.passSlot src l).array.erasesLost = s.array.erasesLost ∧
    (s.passSlot src l).retire = s.retire ∧
    (s.passSlot src l).port = s.port :=
  by unfold State.passSlot; (repeat' split) <;> simp

@[simp] theorem State.relocationRead_frame (s : State) (src : Source) (t : ReadTarget) (l : Loc) (r : Option (PageHeader × List Byte)) :
    (s.relocationRead src t l r).pending = s.pending ∧
    (s.relocationRead src t l r).now = s.now ∧
    (s.relocationRead src t l r).resetLow = s.resetLow ∧
    (s.relocationRead src t l r).selLow = s.selLow ∧
    (s.relocationRead src t l r).ctl = s.ctl ∧
    (s.relocationRead src t l r).members = s.members ∧
    (s.relocationRead src t l r).dir = s.dir ∧
    (s.relocationRead src t l r).repl = s.repl ∧
    (s.relocationRead src t l r).line = s.line ∧
    (s.relocationRead src t l r).engine = s.engine ∧
    (s.relocationRead src t l r).array.flash = s.array.flash ∧
    (s.relocationRead src t l r).array.blocks = s.array.blocks ∧
    (s.relocationRead src t l r).array.freeList = s.array.freeList ∧
    (s.relocationRead src t l r).array.badTable = s.array.badTable ∧
    (s.relocationRead src t l r).array.nextStamp = s.array.nextStamp ∧
    (s.relocationRead src t l r).array.running = s.array.running ∧
    (s.relocationRead src t l r).array.full = s.array.full ∧
    (s.relocationRead src t l r).array.exhausted = s.array.exhausted ∧
    (s.relocationRead src t l r).array.scan = s.array.scan ∧
    (s.relocationRead src t l r).array.erasesLost = s.array.erasesLost ∧
    (s.relocationRead src t l r).retire = s.retire ∧
    (s.relocationRead src t l r).port = s.port :=
  by unfold State.relocationRead; simp; (repeat' split) <;> simp

@[simp] theorem State.readLoss_frame (s : State) (t : ReadTarget) (l : Loc) (r : Option (PageHeader × List Byte)) :
    (s.readLoss t l r).pending = s.pending ∧
    (s.readLoss t l r).now = s.now ∧
    (s.readLoss t l r).resetLow = s.resetLow ∧
    (s.readLoss t l r).selLow = s.selLow ∧
    (s.readLoss t l r).ctl = s.ctl ∧
    (s.readLoss t l r).members = s.members ∧
    (s.readLoss t l r).dir.designated = s.dir.designated ∧
    (s.readLoss t l r).dir.standins = s.dir.standins ∧
    (s.readLoss t l r).dir.mark = s.dir.mark ∧
    (s.readLoss t l r).line = s.line ∧
    (s.readLoss t l r).engine.sending = s.engine.sending ∧
    (s.readLoss t l r).engine.assembly = s.engine.assembly ∧
    (s.readLoss t l r).array.flash = s.array.flash ∧
    (s.readLoss t l r).array.freeList = s.array.freeList ∧
    (s.readLoss t l r).array.badTable = s.array.badTable ∧
    (s.readLoss t l r).array.nextStamp = s.array.nextStamp ∧
    (s.readLoss t l r).array.running = s.array.running ∧
    (s.readLoss t l r).array.failure = s.array.failure ∧
    (s.readLoss t l r).array.reclaim = s.array.reclaim ∧
    (s.readLoss t l r).array.full = s.array.full ∧
    (s.readLoss t l r).array.exhausted = s.array.exhausted ∧
    (s.readLoss t l r).array.scan = s.array.scan ∧
    (s.readLoss t l r).array.erasesLost = s.array.erasesLost ∧
    (s.readLoss t l r).retire = s.retire ∧
    (s.readLoss t l r).port.selected = s.port.selected ∧
    (s.readLoss t l r).port.decoder = s.port.decoder ∧
    (s.readLoss t l r).port.taken = s.port.taken ∧
    (s.readLoss t l r).port.response = s.port.response ∧
    (s.readLoss t l r).port.readKey = s.port.readKey :=
  by unfold State.readLoss; (repeat' split) <;> simp

@[simp] theorem State.hostReadDone_frame (s : State) (k : Key) (l : Loc) (r : Option (PageHeader × List Byte)) :
    (s.hostReadDone k l r).pending = s.pending ∧
    (s.hostReadDone k l r).now = s.now ∧
    (s.hostReadDone k l r).resetLow = s.resetLow ∧
    (s.hostReadDone k l r).selLow = s.selLow ∧
    (s.hostReadDone k l r).ctl = s.ctl ∧
    (s.hostReadDone k l r).members = s.members ∧
    (s.hostReadDone k l r).dir.designated = s.dir.designated ∧
    (s.hostReadDone k l r).dir.standins = s.dir.standins ∧
    (s.hostReadDone k l r).dir.mark = s.dir.mark ∧
    (s.hostReadDone k l r).line = s.line ∧
    (s.hostReadDone k l r).engine.sending = s.engine.sending ∧
    (s.hostReadDone k l r).engine.assembly = s.engine.assembly ∧
    (s.hostReadDone k l r).array.flash = s.array.flash ∧
    (s.hostReadDone k l r).array.freeList = s.array.freeList ∧
    (s.hostReadDone k l r).array.badTable = s.array.badTable ∧
    (s.hostReadDone k l r).array.nextStamp = s.array.nextStamp ∧
    (s.hostReadDone k l r).array.running = s.array.running ∧
    (s.hostReadDone k l r).array.failure = s.array.failure ∧
    (s.hostReadDone k l r).array.reclaim = s.array.reclaim ∧
    (s.hostReadDone k l r).array.full = s.array.full ∧
    (s.hostReadDone k l r).array.exhausted = s.array.exhausted ∧
    (s.hostReadDone k l r).array.scan = s.array.scan ∧
    (s.hostReadDone k l r).array.erasesLost = s.array.erasesLost ∧
    (s.hostReadDone k l r).retire = s.retire ∧
    (s.hostReadDone k l r).port.selected = s.port.selected ∧
    (s.hostReadDone k l r).port.decoder = s.port.decoder ∧
    (s.hostReadDone k l r).port.taken = s.port.taken ∧
    (s.hostReadDone k l r).port.response = s.port.response ∧
    (s.hostReadDone k l r).port.readKey = s.port.readKey :=
  by unfold State.hostReadDone; (repeat' split) <;> simp

@[simp] theorem State.readDone_frame (s : State) (src : Source) (t : ReadTarget) (l : Loc) (errors : Nat) :
    (s.readDone src t l errors).pending = s.pending ∧
    (s.readDone src t l errors).now = s.now ∧
    (s.readDone src t l errors).resetLow = s.resetLow ∧
    (s.readDone src t l errors).selLow = s.selLow ∧
    (s.readDone src t l errors).ctl = s.ctl ∧
    (s.readDone src t l errors).members = s.members ∧
    (s.readDone src t l errors).dir.designated = s.dir.designated ∧
    (s.readDone src t l errors).dir.standins = s.dir.standins ∧
    (s.readDone src t l errors).dir.mark = s.dir.mark ∧
    (s.readDone src t l errors).line = s.line ∧
    (s.readDone src t l errors).engine.sending = s.engine.sending ∧
    (s.readDone src t l errors).engine.assembly = s.engine.assembly ∧
    (s.readDone src t l errors).array.flash = s.array.flash ∧
    (s.readDone src t l errors).array.freeList = s.array.freeList ∧
    (s.readDone src t l errors).array.badTable = s.array.badTable ∧
    (s.readDone src t l errors).array.nextStamp = s.array.nextStamp ∧
    (s.readDone src t l errors).array.running = s.array.running ∧
    (s.readDone src t l errors).array.full = s.array.full ∧
    (s.readDone src t l errors).array.exhausted = s.array.exhausted ∧
    (s.readDone src t l errors).array.scan = s.array.scan ∧
    (s.readDone src t l errors).array.erasesLost = s.array.erasesLost ∧
    (s.readDone src t l errors).retire = s.retire ∧
    (s.readDone src t l errors).port.selected = s.port.selected ∧
    (s.readDone src t l errors).port.decoder = s.port.decoder ∧
    (s.readDone src t l errors).port.taken = s.port.taken ∧
    (s.readDone src t l errors).port.response = s.port.response ∧
    (s.readDone src t l errors).port.readKey = s.port.readKey :=
  by unfold State.readDone; (repeat' split) <;> simp

@[simp] theorem State.closeFull_frame (s : State) (b : Block) :
    (s.closeFull b).pending = s.pending ∧
    (s.closeFull b).now = s.now ∧
    (s.closeFull b).resetLow = s.resetLow ∧
    (s.closeFull b).selLow = s.selLow ∧
    (s.closeFull b).ctl = s.ctl ∧
    (s.closeFull b).members = s.members ∧
    (s.closeFull b).dir = s.dir ∧
    (s.closeFull b).repl = s.repl ∧
    (s.closeFull b).line = s.line ∧
    (s.closeFull b).engine = s.engine ∧
    (s.closeFull b).array.flash = s.array.flash ∧
    (s.closeFull b).array.badTable = s.array.badTable ∧
    (s.closeFull b).array.nextStamp = s.array.nextStamp ∧
    (s.closeFull b).array.running = s.array.running ∧
    (s.closeFull b).array.failure = s.array.failure ∧
    (s.closeFull b).array.reclaim = s.array.reclaim ∧
    (s.closeFull b).array.full = s.array.full ∧
    (s.closeFull b).array.exhausted = s.array.exhausted ∧
    (s.closeFull b).array.scan = s.array.scan ∧
    (s.closeFull b).array.erasesLost = s.array.erasesLost ∧
    (s.closeFull b).retire = s.retire ∧
    (s.closeFull b).port = s.port :=
  by unfold State.closeFull; (repeat' split) <;> simp

@[simp] theorem State.goLive_frame (s : State) (k : Key) (b : BufRef) (l : Loc) (stamp : Nat) :
    (s.goLive k b l stamp).pending = s.pending ∧
    (s.goLive k b l stamp).now = s.now ∧
    (s.goLive k b l stamp).resetLow = s.resetLow ∧
    (s.goLive k b l stamp).selLow = s.selLow ∧
    (s.goLive k b l stamp).ctl = s.ctl ∧
    (s.goLive k b l stamp).members = s.members ∧
    (s.goLive k b l stamp).dir.designated = s.dir.designated ∧
    (s.goLive k b l stamp).dir.standins = s.dir.standins ∧
    (s.goLive k b l stamp).dir.mark = s.dir.mark ∧
    (s.goLive k b l stamp).dir.origins = s.dir.origins ∧
    (s.goLive k b l stamp).repl = s.repl ∧
    (s.goLive k b l stamp).line = s.line ∧
    (s.goLive k b l stamp).engine = s.engine ∧
    (s.goLive k b l stamp).array.flash = s.array.flash ∧
    (s.goLive k b l stamp).array.freeList = s.array.freeList ∧
    (s.goLive k b l stamp).array.badTable = s.array.badTable ∧
    (s.goLive k b l stamp).array.nextStamp = s.array.nextStamp ∧
    (s.goLive k b l stamp).array.running = s.array.running ∧
    (s.goLive k b l stamp).array.failure = s.array.failure ∧
    (s.goLive k b l stamp).array.reclaim = s.array.reclaim ∧
    (s.goLive k b l stamp).array.full = s.array.full ∧
    (s.goLive k b l stamp).array.exhausted = s.array.exhausted ∧
    (s.goLive k b l stamp).array.scan = s.array.scan ∧
    (s.goLive k b l stamp).array.erasesLost = s.array.erasesLost ∧
    (s.goLive k b l stamp).retire = s.retire ∧
    (s.goLive k b l stamp).port = s.port :=
  by unfold State.goLive; (repeat' split) <;> simp

@[simp] theorem State.landed_frame (s : State) (i : Fin 4) :
    (s.landed i).pending = s.pending ∧
    (s.landed i).now = s.now ∧
    (s.landed i).resetLow = s.resetLow ∧
    (s.landed i).selLow = s.selLow ∧
    (s.landed i).ctl = s.ctl ∧
    (s.landed i).members = s.members ∧
    (s.landed i).dir = s.dir ∧
    (s.landed i).repl.publish = s.repl.publish ∧
    (s.landed i).repl.wants = s.repl.wants ∧
    (s.landed i).repl.fetch = s.repl.fetch ∧
    (s.landed i).line = s.line ∧
    (s.landed i).engine = s.engine ∧
    (s.landed i).array = s.array ∧
    (s.landed i).retire = s.retire ∧
    (s.landed i).port = s.port :=
  ⟨rfl, rfl, rfl, rfl, rfl, rfl, rfl, rfl, rfl, rfl, rfl, rfl, rfl, rfl, rfl⟩

@[simp] theorem State.retired_frame (s : State) :
    s.retired.pending = s.pending ∧
    s.retired.now = s.now ∧
    s.retired.resetLow = s.resetLow ∧
    s.retired.selLow = s.selLow ∧
    s.retired.ctl = s.ctl ∧
    s.retired.members = s.members ∧
    s.retired.dir.designated = s.dir.designated ∧
    s.retired.dir.mark = s.dir.mark ∧
    s.retired.line = s.line ∧
    s.retired.engine.sending = s.engine.sending ∧
    s.retired.engine.assembly = s.engine.assembly ∧
    s.retired.array.flash = s.array.flash ∧
    s.retired.array.freeList = s.array.freeList ∧
    s.retired.array.badTable = s.array.badTable ∧
    s.retired.array.nextStamp = s.array.nextStamp ∧
    s.retired.array.running = s.array.running ∧
    s.retired.array.failure = s.array.failure ∧
    s.retired.array.reclaim = s.array.reclaim ∧
    s.retired.array.full = s.array.full ∧
    s.retired.array.exhausted = s.array.exhausted ∧
    s.retired.array.scan = s.array.scan ∧
    s.retired.array.erasesLost = s.array.erasesLost ∧
    s.retired.port.selected = s.port.selected ∧
    s.retired.port.decoder = s.port.decoder ∧
    s.retired.port.taken = s.port.taken ∧
    s.retired.port.response = s.port.response ∧
    s.retired.port.readKey = s.port.readKey :=
  by unfold State.retired; (repeat' split) <;> simp

@[simp] theorem State.reportProgram_frame (s : State) (owner : ProgOwner) (l : Loc) (stamp : Nat) :
    (s.reportProgram owner l stamp).pending = s.pending ∧
    (s.reportProgram owner l stamp).now = s.now ∧
    (s.reportProgram owner l stamp).resetLow = s.resetLow ∧
    (s.reportProgram owner l stamp).selLow = s.selLow ∧
    (s.reportProgram owner l stamp).ctl = s.ctl ∧
    (s.reportProgram owner l stamp).members = s.members ∧
    (s.reportProgram owner l stamp).dir.designated = s.dir.designated ∧
    (s.reportProgram owner l stamp).line = s.line ∧
    (s.reportProgram owner l stamp).engine.sending = s.engine.sending ∧
    (s.reportProgram owner l stamp).engine.assembly = s.engine.assembly ∧
    (s.reportProgram owner l stamp).array.flash = s.array.flash ∧
    (s.reportProgram owner l stamp).array.freeList = s.array.freeList ∧
    (s.reportProgram owner l stamp).array.badTable = s.array.badTable ∧
    (s.reportProgram owner l stamp).array.nextStamp = s.array.nextStamp ∧
    (s.reportProgram owner l stamp).array.running = s.array.running ∧
    (s.reportProgram owner l stamp).array.failure = s.array.failure ∧
    (s.reportProgram owner l stamp).array.reclaim = s.array.reclaim ∧
    (s.reportProgram owner l stamp).array.full = s.array.full ∧
    (s.reportProgram owner l stamp).array.exhausted = s.array.exhausted ∧
    (s.reportProgram owner l stamp).array.scan = s.array.scan ∧
    (s.reportProgram owner l stamp).array.erasesLost = s.array.erasesLost ∧
    (s.reportProgram owner l stamp).port.selected = s.port.selected ∧
    (s.reportProgram owner l stamp).port.decoder = s.port.decoder ∧
    (s.reportProgram owner l stamp).port.taken = s.port.taken ∧
    (s.reportProgram owner l stamp).port.response = s.port.response ∧
    (s.reportProgram owner l stamp).port.readKey = s.port.readKey :=
  by unfold State.reportProgram; (repeat' split) <;> simp

@[simp] theorem State.failureProgrammed_frame (s : State) (owner : ProgOwner) :
    (s.failureProgrammed owner).pending = s.pending ∧
    (s.failureProgrammed owner).now = s.now ∧
    (s.failureProgrammed owner).resetLow = s.resetLow ∧
    (s.failureProgrammed owner).selLow = s.selLow ∧
    (s.failureProgrammed owner).ctl = s.ctl ∧
    (s.failureProgrammed owner).members = s.members ∧
    (s.failureProgrammed owner).dir = s.dir ∧
    (s.failureProgrammed owner).repl = s.repl ∧
    (s.failureProgrammed owner).line = s.line ∧
    (s.failureProgrammed owner).engine = s.engine ∧
    (s.failureProgrammed owner).array.flash = s.array.flash ∧
    (s.failureProgrammed owner).array.blocks = s.array.blocks ∧
    (s.failureProgrammed owner).array.freeList = s.array.freeList ∧
    (s.failureProgrammed owner).array.badTable = s.array.badTable ∧
    (s.failureProgrammed owner).array.nextStamp = s.array.nextStamp ∧
    (s.failureProgrammed owner).array.running = s.array.running ∧
    (s.failureProgrammed owner).array.full = s.array.full ∧
    (s.failureProgrammed owner).array.exhausted = s.array.exhausted ∧
    (s.failureProgrammed owner).array.scan = s.array.scan ∧
    (s.failureProgrammed owner).array.erasesLost = s.array.erasesLost ∧
    (s.failureProgrammed owner).retire = s.retire ∧
    (s.failureProgrammed owner).port = s.port :=
  by unfold State.failureProgrammed; (repeat' split) <;> simp

@[simp] theorem State.sequenceProgrammed_frame (s : State) (src : Source) (owner : ProgOwner) :
    (s.sequenceProgrammed src owner).pending = s.pending ∧
    (s.sequenceProgrammed src owner).now = s.now ∧
    (s.sequenceProgrammed src owner).resetLow = s.resetLow ∧
    (s.sequenceProgrammed src owner).selLow = s.selLow ∧
    (s.sequenceProgrammed src owner).ctl = s.ctl ∧
    (s.sequenceProgrammed src owner).members = s.members ∧
    (s.sequenceProgrammed src owner).dir = s.dir ∧
    (s.sequenceProgrammed src owner).repl = s.repl ∧
    (s.sequenceProgrammed src owner).line = s.line ∧
    (s.sequenceProgrammed src owner).engine = s.engine ∧
    (s.sequenceProgrammed src owner).array.flash = s.array.flash ∧
    (s.sequenceProgrammed src owner).array.blocks = s.array.blocks ∧
    (s.sequenceProgrammed src owner).array.freeList = s.array.freeList ∧
    (s.sequenceProgrammed src owner).array.badTable = s.array.badTable ∧
    (s.sequenceProgrammed src owner).array.nextStamp = s.array.nextStamp ∧
    (s.sequenceProgrammed src owner).array.running = s.array.running ∧
    (s.sequenceProgrammed src owner).array.full = s.array.full ∧
    (s.sequenceProgrammed src owner).array.exhausted = s.array.exhausted ∧
    (s.sequenceProgrammed src owner).array.scan = s.array.scan ∧
    (s.sequenceProgrammed src owner).array.erasesLost = s.array.erasesLost ∧
    (s.sequenceProgrammed src owner).retire = s.retire ∧
    (s.sequenceProgrammed src owner).port = s.port :=
  by unfold State.sequenceProgrammed; (repeat' split) <;> simp

@[simp] theorem State.stampCheck_frame (s : State) (stamp : Nat) :
    (s.stampCheck stamp).pending = s.pending ∧
    (s.stampCheck stamp).now = s.now ∧
    (s.stampCheck stamp).resetLow = s.resetLow ∧
    (s.stampCheck stamp).selLow = s.selLow ∧
    (s.stampCheck stamp).ctl.stopping = s.ctl.stopping ∧
    (s.stampCheck stamp).ctl.config = s.ctl.config ∧
    (s.stampCheck stamp).members.peers = s.members.peers ∧
    (s.stampCheck stamp).dir.designated = s.dir.designated ∧
    (s.stampCheck stamp).dir.mark = s.dir.mark ∧
    (s.stampCheck stamp).line = s.line ∧
    (s.stampCheck stamp).engine.sending = s.engine.sending ∧
    (s.stampCheck stamp).engine.assembly = s.engine.assembly ∧
    (s.stampCheck stamp).array.flash = s.array.flash ∧
    (s.stampCheck stamp).array.freeList = s.array.freeList ∧
    (s.stampCheck stamp).array.badTable = s.array.badTable ∧
    (s.stampCheck stamp).array.nextStamp = s.array.nextStamp ∧
    (s.stampCheck stamp).array.running = s.array.running ∧
    (s.stampCheck stamp).array.full = s.array.full ∧
    (s.stampCheck stamp).array.scan = s.array.scan ∧
    (s.stampCheck stamp).array.erasesLost = s.array.erasesLost ∧
    (s.stampCheck stamp).port.selected = s.port.selected ∧
    (s.stampCheck stamp).port.decoder = s.port.decoder ∧
    (s.stampCheck stamp).port.taken = s.port.taken ∧
    (s.stampCheck stamp).port.response = s.port.response ∧
    (s.stampCheck stamp).port.readKey = s.port.readKey :=
  by unfold State.stampCheck; (repeat' split) <;> simp

@[simp] theorem State.programOk_frame (s : State) (src : Source) (item : ProgItem) (l : Loc) (stamp : Nat) :
    (s.programOk src item l stamp).pending = s.pending ∧
    (s.programOk src item l stamp).now = s.now ∧
    (s.programOk src item l stamp).resetLow = s.resetLow ∧
    (s.programOk src item l stamp).selLow = s.selLow ∧
    (s.programOk src item l stamp).ctl.stopping = s.ctl.stopping ∧
    (s.programOk src item l stamp).ctl.config = s.ctl.config ∧
    (s.programOk src item l stamp).members.peers = s.members.peers ∧
    (s.programOk src item l stamp).dir.designated = s.dir.designated ∧
    (s.programOk src item l stamp).line = s.line ∧
    (s.programOk src item l stamp).engine.sending = s.engine.sending ∧
    (s.programOk src item l stamp).engine.assembly = s.engine.assembly ∧
    (s.programOk src item l stamp).array.flash = s.array.flash ∧
    (s.programOk src item l stamp).array.badTable = s.array.badTable ∧
    (s.programOk src item l stamp).array.nextStamp = s.array.nextStamp ∧
    (s.programOk src item l stamp).array.running = s.array.running ∧
    (s.programOk src item l stamp).array.full = s.array.full ∧
    (s.programOk src item l stamp).array.scan = s.array.scan ∧
    (s.programOk src item l stamp).array.erasesLost = s.array.erasesLost ∧
    (s.programOk src item l stamp).port.selected = s.port.selected ∧
    (s.programOk src item l stamp).port.decoder = s.port.decoder ∧
    (s.programOk src item l stamp).port.taken = s.port.taken ∧
    (s.programOk src item l stamp).port.response = s.port.response ∧
    (s.programOk src item l stamp).port.readKey = s.port.readKey :=
  by unfold State.programOk; (repeat' split) <;> simp

@[simp] theorem State.pendPage_frame (s : State) (src : Source) (item : ProgItem) :
    (s.pendPage src item).pending = s.pending ∧
    (s.pendPage src item).now = s.now ∧
    (s.pendPage src item).resetLow = s.resetLow ∧
    (s.pendPage src item).selLow = s.selLow ∧
    (s.pendPage src item).ctl = s.ctl ∧
    (s.pendPage src item).members = s.members ∧
    (s.pendPage src item).dir = s.dir ∧
    (s.pendPage src item).repl = s.repl ∧
    (s.pendPage src item).line = s.line ∧
    (s.pendPage src item).engine = s.engine ∧
    (s.pendPage src item).array.flash = s.array.flash ∧
    (s.pendPage src item).array.blocks = s.array.blocks ∧
    (s.pendPage src item).array.freeList = s.array.freeList ∧
    (s.pendPage src item).array.badTable = s.array.badTable ∧
    (s.pendPage src item).array.nextStamp = s.array.nextStamp ∧
    (s.pendPage src item).array.running = s.array.running ∧
    (s.pendPage src item).array.full = s.array.full ∧
    (s.pendPage src item).array.exhausted = s.array.exhausted ∧
    (s.pendPage src item).array.scan = s.array.scan ∧
    (s.pendPage src item).array.erasesLost = s.array.erasesLost ∧
    (s.pendPage src item).retire = s.retire ∧
    (s.pendPage src item).port = s.port :=
  ⟨rfl, rfl, rfl, rfl, rfl, rfl, rfl, rfl, rfl, rfl, rfl, rfl, rfl, rfl, rfl, rfl, rfl, rfl, rfl, rfl, rfl, rfl⟩

@[simp] theorem State.programFail_frame (s : State) (src : Source) (item : ProgItem) (l : Loc) (stamp : Nat) :
    (s.programFail src item l stamp).pending = s.pending ∧
    (s.programFail src item l stamp).now = s.now ∧
    (s.programFail src item l stamp).resetLow = s.resetLow ∧
    (s.programFail src item l stamp).selLow = s.selLow ∧
    (s.programFail src item l stamp).ctl.stopping = s.ctl.stopping ∧
    (s.programFail src item l stamp).ctl.config = s.ctl.config ∧
    (s.programFail src item l stamp).members.peers = s.members.peers ∧
    (s.programFail src item l stamp).dir.designated = s.dir.designated ∧
    (s.programFail src item l stamp).dir.mark = s.dir.mark ∧
    (s.programFail src item l stamp).line = s.line ∧
    (s.programFail src item l stamp).engine.sending = s.engine.sending ∧
    (s.programFail src item l stamp).engine.assembly = s.engine.assembly ∧
    (s.programFail src item l stamp).array.flash = s.array.flash ∧
    (s.programFail src item l stamp).array.badTable = s.array.badTable ∧
    (s.programFail src item l stamp).array.nextStamp = s.array.nextStamp ∧
    (s.programFail src item l stamp).array.running = s.array.running ∧
    (s.programFail src item l stamp).array.full = s.array.full ∧
    (s.programFail src item l stamp).array.scan = s.array.scan ∧
    (s.programFail src item l stamp).array.erasesLost = s.array.erasesLost ∧
    (s.programFail src item l stamp).port.selected = s.port.selected ∧
    (s.programFail src item l stamp).port.decoder = s.port.decoder ∧
    (s.programFail src item l stamp).port.taken = s.port.taken ∧
    (s.programFail src item l stamp).port.response = s.port.response ∧
    (s.programFail src item l stamp).port.readKey = s.port.readKey :=
  by unfold State.programFail; (repeat' split) <;> simp

@[simp] theorem State.slotProgrammed_frame (s : State) (item : ProgItem) (l : Loc) (stamp : Nat) (ok : Bool) :
    (s.slotProgrammed item l stamp ok).pending = s.pending ∧
    (s.slotProgrammed item l stamp ok).now = s.now ∧
    (s.slotProgrammed item l stamp ok).resetLow = s.resetLow ∧
    (s.slotProgrammed item l stamp ok).selLow = s.selLow ∧
    (s.slotProgrammed item l stamp ok).ctl = s.ctl ∧
    (s.slotProgrammed item l stamp ok).members = s.members ∧
    (s.slotProgrammed item l stamp ok).dir = s.dir ∧
    (s.slotProgrammed item l stamp ok).repl = s.repl ∧
    (s.slotProgrammed item l stamp ok).line = s.line ∧
    (s.slotProgrammed item l stamp ok).engine = s.engine ∧
    (s.slotProgrammed item l stamp ok).array.blocks = s.array.blocks ∧
    (s.slotProgrammed item l stamp ok).array.freeList = s.array.freeList ∧
    (s.slotProgrammed item l stamp ok).array.badTable = s.array.badTable ∧
    (s.slotProgrammed item l stamp ok).array.nextStamp = s.array.nextStamp ∧
    (s.slotProgrammed item l stamp ok).array.running = s.array.running ∧
    (s.slotProgrammed item l stamp ok).array.failure = s.array.failure ∧
    (s.slotProgrammed item l stamp ok).array.reclaim = s.array.reclaim ∧
    (s.slotProgrammed item l stamp ok).array.full = s.array.full ∧
    (s.slotProgrammed item l stamp ok).array.exhausted = s.array.exhausted ∧
    (s.slotProgrammed item l stamp ok).array.scan = s.array.scan ∧
    (s.slotProgrammed item l stamp ok).array.erasesLost = s.array.erasesLost ∧
    (s.slotProgrammed item l stamp ok).retire = s.retire ∧
    (s.slotProgrammed item l stamp ok).port = s.port :=
  by unfold State.slotProgrammed; (repeat' split) <;> simp

@[simp] theorem State.sequenceRetired_frame (s : State) (src : Source) (b : Block) :
    (s.sequenceRetired src b).pending = s.pending ∧
    (s.sequenceRetired src b).now = s.now ∧
    (s.sequenceRetired src b).resetLow = s.resetLow ∧
    (s.sequenceRetired src b).selLow = s.selLow ∧
    (s.sequenceRetired src b).ctl = s.ctl ∧
    (s.sequenceRetired src b).members = s.members ∧
    (s.sequenceRetired src b).dir = s.dir ∧
    (s.sequenceRetired src b).repl = s.repl ∧
    (s.sequenceRetired src b).line = s.line ∧
    (s.sequenceRetired src b).engine = s.engine ∧
    (s.sequenceRetired src b).array.flash = s.array.flash ∧
    (s.sequenceRetired src b).array.blocks = s.array.blocks ∧
    (s.sequenceRetired src b).array.freeList = s.array.freeList ∧
    (s.sequenceRetired src b).array.badTable = s.array.badTable ∧
    (s.sequenceRetired src b).array.nextStamp = s.array.nextStamp ∧
    (s.sequenceRetired src b).array.running = s.array.running ∧
    (s.sequenceRetired src b).array.full = s.array.full ∧
    (s.sequenceRetired src b).array.exhausted = s.array.exhausted ∧
    (s.sequenceRetired src b).array.scan = s.array.scan ∧
    (s.sequenceRetired src b).array.erasesLost = s.array.erasesLost ∧
    (s.sequenceRetired src b).retire = s.retire ∧
    (s.sequenceRetired src b).port = s.port :=
  by unfold State.sequenceRetired; (repeat' split) <;> simp

@[simp] theorem State.retireBlock_frame (s : State) (src : Source) (b : Block) (reason : StorageReason) (stamp : Nat) :
    (s.retireBlock src b reason stamp).pending = s.pending ∧
    (s.retireBlock src b reason stamp).now = s.now ∧
    (s.retireBlock src b reason stamp).resetLow = s.resetLow ∧
    (s.retireBlock src b reason stamp).selLow = s.selLow ∧
    (s.retireBlock src b reason stamp).ctl.stopping = s.ctl.stopping ∧
    (s.retireBlock src b reason stamp).ctl.config = s.ctl.config ∧
    (s.retireBlock src b reason stamp).members.peers = s.members.peers ∧
    (s.retireBlock src b reason stamp).dir.designated = s.dir.designated ∧
    (s.retireBlock src b reason stamp).dir.mark = s.dir.mark ∧
    (s.retireBlock src b reason stamp).line = s.line ∧
    (s.retireBlock src b reason stamp).engine.sending = s.engine.sending ∧
    (s.retireBlock src b reason stamp).engine.assembly = s.engine.assembly ∧
    (s.retireBlock src b reason stamp).array.flash = s.array.flash ∧
    (s.retireBlock src b reason stamp).array.freeList = s.array.freeList ∧
    (s.retireBlock src b reason stamp).array.nextStamp = s.array.nextStamp ∧
    (s.retireBlock src b reason stamp).array.running = s.array.running ∧
    (s.retireBlock src b reason stamp).array.full = s.array.full ∧
    (s.retireBlock src b reason stamp).array.scan = s.array.scan ∧
    (s.retireBlock src b reason stamp).array.erasesLost = s.array.erasesLost ∧
    (s.retireBlock src b reason stamp).port.selected = s.port.selected ∧
    (s.retireBlock src b reason stamp).port.decoder = s.port.decoder ∧
    (s.retireBlock src b reason stamp).port.taken = s.port.taken ∧
    (s.retireBlock src b reason stamp).port.response = s.port.response ∧
    (s.retireBlock src b reason stamp).port.readKey = s.port.readKey :=
  by unfold State.retireBlock; simp; (repeat' split) <;> simp

@[simp] theorem State.tagProgrammed_frame (s : State) (b : Block) (reason : StorageReason) (stamp : Nat) (ok : Bool) :
    (s.tagProgrammed b reason stamp ok).pending = s.pending ∧
    (s.tagProgrammed b reason stamp ok).now = s.now ∧
    (s.tagProgrammed b reason stamp ok).resetLow = s.resetLow ∧
    (s.tagProgrammed b reason stamp ok).selLow = s.selLow ∧
    (s.tagProgrammed b reason stamp ok).ctl = s.ctl ∧
    (s.tagProgrammed b reason stamp ok).members = s.members ∧
    (s.tagProgrammed b reason stamp ok).dir = s.dir ∧
    (s.tagProgrammed b reason stamp ok).repl = s.repl ∧
    (s.tagProgrammed b reason stamp ok).line = s.line ∧
    (s.tagProgrammed b reason stamp ok).engine = s.engine ∧
    (s.tagProgrammed b reason stamp ok).array.blocks = s.array.blocks ∧
    (s.tagProgrammed b reason stamp ok).array.freeList = s.array.freeList ∧
    (s.tagProgrammed b reason stamp ok).array.badTable = s.array.badTable ∧
    (s.tagProgrammed b reason stamp ok).array.nextStamp = s.array.nextStamp ∧
    (s.tagProgrammed b reason stamp ok).array.running = s.array.running ∧
    (s.tagProgrammed b reason stamp ok).array.failure = s.array.failure ∧
    (s.tagProgrammed b reason stamp ok).array.reclaim = s.array.reclaim ∧
    (s.tagProgrammed b reason stamp ok).array.full = s.array.full ∧
    (s.tagProgrammed b reason stamp ok).array.exhausted = s.array.exhausted ∧
    (s.tagProgrammed b reason stamp ok).array.scan = s.array.scan ∧
    (s.tagProgrammed b reason stamp ok).array.erasesLost = s.array.erasesLost ∧
    (s.tagProgrammed b reason stamp ok).retire = s.retire ∧
    (s.tagProgrammed b reason stamp ok).port = s.port :=
  by unfold State.tagProgrammed; (repeat' split) <;> simp

@[simp] theorem State.blockErased_frame (s : State) (b : Block) (ok : Bool) :
    (s.blockErased b ok).pending = s.pending ∧
    (s.blockErased b ok).now = s.now ∧
    (s.blockErased b ok).resetLow = s.resetLow ∧
    (s.blockErased b ok).selLow = s.selLow ∧
    (s.blockErased b ok).ctl = s.ctl ∧
    (s.blockErased b ok).members = s.members ∧
    (s.blockErased b ok).dir = s.dir ∧
    (s.blockErased b ok).repl = s.repl ∧
    (s.blockErased b ok).line = s.line ∧
    (s.blockErased b ok).engine = s.engine ∧
    (s.blockErased b ok).array.blocks = s.array.blocks ∧
    (s.blockErased b ok).array.freeList = s.array.freeList ∧
    (s.blockErased b ok).array.badTable = s.array.badTable ∧
    (s.blockErased b ok).array.nextStamp = s.array.nextStamp ∧
    (s.blockErased b ok).array.running = s.array.running ∧
    (s.blockErased b ok).array.failure = s.array.failure ∧
    (s.blockErased b ok).array.reclaim = s.array.reclaim ∧
    (s.blockErased b ok).array.full = s.array.full ∧
    (s.blockErased b ok).array.exhausted = s.array.exhausted ∧
    (s.blockErased b ok).array.scan = s.array.scan ∧
    (s.blockErased b ok).retire = s.retire ∧
    (s.blockErased b ok).port = s.port :=
  by unfold State.blockErased; (repeat' split) <;> simp

@[simp] theorem State.eraseOk_frame (s : State) (b : Block) :
    (s.eraseOk b).pending = s.pending ∧
    (s.eraseOk b).now = s.now ∧
    (s.eraseOk b).resetLow = s.resetLow ∧
    (s.eraseOk b).selLow = s.selLow ∧
    (s.eraseOk b).ctl = s.ctl ∧
    (s.eraseOk b).members = s.members ∧
    (s.eraseOk b).dir = s.dir ∧
    (s.eraseOk b).repl = s.repl ∧
    (s.eraseOk b).line = s.line ∧
    (s.eraseOk b).engine = s.engine ∧
    (s.eraseOk b).array.flash = s.array.flash ∧
    (s.eraseOk b).array.badTable = s.array.badTable ∧
    (s.eraseOk b).array.nextStamp = s.array.nextStamp ∧
    (s.eraseOk b).array.running = s.array.running ∧
    (s.eraseOk b).array.failure = s.array.failure ∧
    (s.eraseOk b).array.full = s.array.full ∧
    (s.eraseOk b).array.exhausted = s.array.exhausted ∧
    (s.eraseOk b).array.scan = s.array.scan ∧
    (s.eraseOk b).array.erasesLost = s.array.erasesLost ∧
    (s.eraseOk b).retire = s.retire ∧
    (s.eraseOk b).port = s.port :=
  by unfold State.eraseOk; (repeat' split) <;> simp

@[simp] theorem State.eraseFail_frame (s : State) :
    s.eraseFail.pending = s.pending ∧
    s.eraseFail.now = s.now ∧
    s.eraseFail.resetLow = s.resetLow ∧
    s.eraseFail.selLow = s.selLow ∧
    s.eraseFail.ctl = s.ctl ∧
    s.eraseFail.members = s.members ∧
    s.eraseFail.dir = s.dir ∧
    s.eraseFail.repl = s.repl ∧
    s.eraseFail.line = s.line ∧
    s.eraseFail.engine = s.engine ∧
    s.eraseFail.array.flash = s.array.flash ∧
    s.eraseFail.array.blocks = s.array.blocks ∧
    s.eraseFail.array.freeList = s.array.freeList ∧
    s.eraseFail.array.badTable = s.array.badTable ∧
    s.eraseFail.array.nextStamp = s.array.nextStamp ∧
    s.eraseFail.array.running = s.array.running ∧
    s.eraseFail.array.failure = s.array.failure ∧
    s.eraseFail.array.full = s.array.full ∧
    s.eraseFail.array.exhausted = s.array.exhausted ∧
    s.eraseFail.array.scan = s.array.scan ∧
    s.eraseFail.array.erasesLost = s.array.erasesLost ∧
    s.eraseFail.retire = s.retire ∧
    s.eraseFail.port = s.port :=
  ⟨rfl, rfl, rfl, rfl, rfl, rfl, rfl, rfl, rfl, rfl, rfl, rfl, rfl, rfl, rfl, rfl, rfl, rfl, rfl, rfl, rfl, rfl, rfl⟩

end Sys2Proof.Machine
end

