-- ==== Sys2Proof/Laws/Values.lean ====
section
/-! SUPPORT. What the shared operations keep of the origin records: floors, frontiers, published sequences and roles. Only tellKnown, setPublished, raiseFloor and setHeld with their callers change one. -/

namespace Sys2Proof.Machine

set_option linter.unusedSimpArgs false

@[simp] theorem State.liftPublished_values (s : State) :
    (∀ o : Station, (s.liftPublished.dir.origins.get o).floor = (s.dir.origins.get o).floor) ∧
    (∀ o : Station, (s.liftPublished.dir.origins.get o).known = (s.dir.origins.get o).known) ∧
    (∀ o : Station, (s.liftPublished.dir.origins.get o).held = (s.dir.origins.get o).held) ∧
    (∀ o : Station, (s.liftPublished.dir.origins.get o).role = (s.dir.origins.get o).role) :=
  by and_intros <;> (try intro) <;> first | rfl | ((unfold State.liftPublished; repeat' split) <;> first | rfl | (simp; done) | (simp [State.cfg, State.self, State.org, State.standin]; done) | (simp; split <;> rfl) | (simp; repeat' (first | rfl | (simp; done) | split)))

@[simp] theorem State.setHeld_values (s : State) (o : Station) (h : Nat) :
    (∀ q : Station, ((s.setHeld o h).dir.origins.get q).floor = (s.dir.origins.get q).floor) ∧
    (∀ q : Station, ((s.setHeld o h).dir.origins.get q).known = (s.dir.origins.get q).known) ∧
    (∀ q : Station, ((s.setHeld o h).dir.origins.get q).published = (s.dir.origins.get q).published) ∧
    (∀ q : Station, ((s.setHeld o h).dir.origins.get q).role = (s.dir.origins.get q).role) :=
  by and_intros <;> (try intro) <;> first | rfl | ((unfold State.setHeld; repeat' split) <;> first | rfl | (simp; done) | (simp [State.cfg, State.self, State.org, State.standin]; done) | (simp; split <;> rfl) | (simp; repeat' (first | rfl | (simp; done) | split)))

@[simp] theorem State.advanceHeld_values (s : State) (o : Station) :
    (∀ q : Station, ((s.advanceHeld o).dir.origins.get q).floor = (s.dir.origins.get q).floor) ∧
    (∀ q : Station, ((s.advanceHeld o).dir.origins.get q).known = (s.dir.origins.get q).known) ∧
    (∀ q : Station, ((s.advanceHeld o).dir.origins.get q).published = (s.dir.origins.get q).published) ∧
    (∀ q : Station, ((s.advanceHeld o).dir.origins.get q).role = (s.dir.origins.get q).role) :=
  by unfold State.advanceHeld; (repeat' split) <;> simp

@[simp] theorem State.lowerHeld_values (s : State) (k : Key) :
    (∀ o : Station, ((s.lowerHeld k).dir.origins.get o).floor = (s.dir.origins.get o).floor) ∧
    (∀ o : Station, ((s.lowerHeld k).dir.origins.get o).known = (s.dir.origins.get o).known) ∧
    (∀ o : Station, ((s.lowerHeld k).dir.origins.get o).published = (s.dir.origins.get o).published) ∧
    (∀ o : Station, ((s.lowerHeld k).dir.origins.get o).role = (s.dir.origins.get o).role) :=
  by unfold State.lowerHeld; (repeat' split) <;> simp

@[simp] theorem State.release_values (s : State) (k : Key) :
    (∀ o : Station, ((s.release k).dir.origins.get o).floor = (s.dir.origins.get o).floor) ∧
    (∀ o : Station, ((s.release k).dir.origins.get o).known = (s.dir.origins.get o).known) ∧
    (∀ o : Station, ((s.release k).dir.origins.get o).published = (s.dir.origins.get o).published) ∧
    (∀ o : Station, ((s.release k).dir.origins.get o).role = (s.dir.origins.get o).role) :=
  by unfold State.release; (repeat' split) <;> simp

@[simp] theorem State.releaseAll_values (s : State) (ks : List Key) :
    (∀ o : Station, ((s.releaseAll ks).dir.origins.get o).floor = (s.dir.origins.get o).floor) ∧
    (∀ o : Station, ((s.releaseAll ks).dir.origins.get o).known = (s.dir.origins.get o).known) ∧
    (∀ o : Station, ((s.releaseAll ks).dir.origins.get o).published = (s.dir.origins.get o).published) ∧
    (∀ o : Station, ((s.releaseAll ks).dir.origins.get o).role = (s.dir.origins.get o).role) :=
  by
    unfold State.releaseAll
    induction ks generalizing s with
    | nil => simp
    | cons k ks ih => simpa using ih (s.release k)

@[simp] theorem State.insert_values (s : State) (e : Entry) :
    (∀ o : Station, ((s.insert e).dir.origins.get o).floor = (s.dir.origins.get o).floor) ∧
    (∀ o : Station, ((s.insert e).dir.origins.get o).known = (s.dir.origins.get o).known) ∧
    (∀ o : Station, ((s.insert e).dir.origins.get o).published = (s.dir.origins.get o).published) ∧
    (∀ o : Station, ((s.insert e).dir.origins.get o).role = (s.dir.origins.get o).role) :=
  by unfold State.insert; simp; (repeat' split) <;> simp

@[simp] theorem State.land_values (s : State) (i : Fin 4) (k : Key) (payload : List Byte) :
    (∀ o : Station, ((s.land i k payload).dir.origins.get o).floor = (s.dir.origins.get o).floor) ∧
    (∀ o : Station, ((s.land i k payload).dir.origins.get o).known = (s.dir.origins.get o).known) ∧
    (∀ o : Station, ((s.land i k payload).dir.origins.get o).published = (s.dir.origins.get o).published) ∧
    (∀ o : Station, ((s.land i k payload).dir.origins.get o).role = (s.dir.origins.get o).role) :=
  by unfold State.land; (repeat' split) <;> simp

@[simp] theorem State.publishFailed_values (s : State) :
    (∀ o : Station, (s.publishFailed.dir.origins.get o).floor = (s.dir.origins.get o).floor) ∧
    (∀ o : Station, (s.publishFailed.dir.origins.get o).known = (s.dir.origins.get o).known) ∧
    (∀ o : Station, (s.publishFailed.dir.origins.get o).published = (s.dir.origins.get o).published) ∧
    (∀ o : Station, (s.publishFailed.dir.origins.get o).role = (s.dir.origins.get o).role) :=
  by unfold State.publishFailed; (repeat' split) <;> simp

@[simp] theorem State.pageLost_values (s : State) (k : Key) (l : Loc) :
    (∀ o : Station, ((s.pageLost k l).dir.origins.get o).floor = (s.dir.origins.get o).floor) ∧
    (∀ o : Station, ((s.pageLost k l).dir.origins.get o).known = (s.dir.origins.get o).known) ∧
    (∀ o : Station, ((s.pageLost k l).dir.origins.get o).published = (s.dir.origins.get o).published) ∧
    (∀ o : Station, ((s.pageLost k l).dir.origins.get o).role = (s.dir.origins.get o).role) :=
  by unfold State.pageLost; (repeat' split) <;> simp

@[simp] theorem State.standInRelease_values (s : State) (o : Station) :
    (∀ q : Station, ((s.standInRelease o).dir.origins.get q).floor = (s.dir.origins.get q).floor) ∧
    (∀ q : Station, ((s.standInRelease o).dir.origins.get q).known = (s.dir.origins.get q).known) ∧
    (∀ q : Station, ((s.standInRelease o).dir.origins.get q).published = (s.dir.origins.get q).published) ∧
    (∀ q : Station, ((s.standInRelease o).dir.origins.get q).role = (s.dir.origins.get q).role) :=
  by unfold State.standInRelease; (repeat' split) <;> simp

@[simp] theorem State.releaseCheck_values (s : State) (o : Station) :
    (∀ q : Station, ((s.releaseCheck o).dir.origins.get q).floor = (s.dir.origins.get q).floor) ∧
    (∀ q : Station, ((s.releaseCheck o).dir.origins.get q).known = (s.dir.origins.get q).known) ∧
    (∀ q : Station, ((s.releaseCheck o).dir.origins.get q).published = (s.dir.origins.get q).published) ∧
    (∀ q : Station, ((s.releaseCheck o).dir.origins.get q).role = (s.dir.origins.get q).role) :=
  by unfold State.releaseCheck; simp; (repeat' split) <;> simp

@[simp] theorem State.releaseChecks_values (s : State) (changed : BitVec 16) :
    (∀ o : Station, ((s.releaseChecks changed).dir.origins.get o).floor = (s.dir.origins.get o).floor) ∧
    (∀ o : Station, ((s.releaseChecks changed).dir.origins.get o).known = (s.dir.origins.get o).known) ∧
    (∀ o : Station, ((s.releaseChecks changed).dir.origins.get o).published = (s.dir.origins.get o).published) ∧
    (∀ o : Station, ((s.releaseChecks changed).dir.origins.get o).role = (s.dir.origins.get o).role) :=
  by
    unfold State.releaseChecks
    generalize stations = l
    induction l generalizing s with
    | nil => simp
    | cons o l ih =>
      rw [List.foldl_cons]
      split
      · simpa using ih (s.releaseCheck o)
      · exact ih s

@[simp] theorem State.setFloor_values (s : State) (o : Station) (f : Nat) :
    (∀ q : Station, ((s.setFloor o f).dir.origins.get q).published = (s.dir.origins.get q).published) ∧
    (∀ q : Station, ((s.setFloor o f).dir.origins.get q).role = (s.dir.origins.get q).role) :=
  by and_intros <;> (try intro) <;> (unfold State.setFloor; simp; (repeat' split) <;> simp)

@[simp] theorem State.floorHeld_values (s : State) (o : Station) (f : Nat) :
    (∀ q : Station, ((s.floorHeld o f).dir.origins.get q).floor = (s.dir.origins.get q).floor) ∧
    (∀ q : Station, ((s.floorHeld o f).dir.origins.get q).known = (s.dir.origins.get q).known) ∧
    (∀ q : Station, ((s.floorHeld o f).dir.origins.get q).published = (s.dir.origins.get q).published) ∧
    (∀ q : Station, ((s.floorHeld o f).dir.origins.get q).role = (s.dir.origins.get q).role) :=
  by and_intros <;> (try intro) <;> (unfold State.floorHeld; simp; (repeat' split) <;> simp)

@[simp] theorem State.discardLanding_values (s : State) :
    (∀ o : Station, (s.discardLanding.dir.origins.get o).floor = (s.dir.origins.get o).floor) ∧
    (∀ o : Station, (s.discardLanding.dir.origins.get o).known = (s.dir.origins.get o).known) ∧
    (∀ o : Station, (s.discardLanding.dir.origins.get o).published = (s.dir.origins.get o).published) ∧
    (∀ o : Station, (s.discardLanding.dir.origins.get o).role = (s.dir.origins.get o).role) :=
  by unfold State.discardLanding; simp; (repeat' split) <;> simp

@[simp] theorem State.endStoring_values (s : State) :
    (∀ o : Station, (s.endStoring.dir.origins.get o).floor = (s.dir.origins.get o).floor) ∧
    (∀ o : Station, (s.endStoring.dir.origins.get o).known = (s.dir.origins.get o).known) ∧
    (∀ o : Station, (s.endStoring.dir.origins.get o).published = (s.dir.origins.get o).published) ∧
    (∀ o : Station, (s.endStoring.dir.origins.get o).role = (s.dir.origins.get o).role) :=
  by unfold State.endStoring; (repeat' split) <;> simp

@[simp] theorem State.stopStanding_values (s : State) (o : Station) :
    (∀ q : Station, ((s.stopStanding o).dir.origins.get q).floor = (s.dir.origins.get q).floor) ∧
    (∀ q : Station, ((s.stopStanding o).dir.origins.get q).known = (s.dir.origins.get q).known) ∧
    (∀ q : Station, ((s.stopStanding o).dir.origins.get q).published = (s.dir.origins.get q).published) :=
  by and_intros <;> (try intro) <;> first | rfl | (unfold State.stopStanding; repeat' (first | rfl | (simp; done) | split | simp only [State.setOrg_origins, upd_get, State.setStandin_frame, State.floorTold, State.releaseCheck_values, State.evaluate, State.afterStateChange_frame]))

@[simp] theorem State.evaluateOne_values (s : State) (o : Station) :
    (∀ q : Station, ((s.evaluateOne o).dir.origins.get q).floor = (s.dir.origins.get q).floor) ∧
    (∀ q : Station, ((s.evaluateOne o).dir.origins.get q).known = (s.dir.origins.get q).known) ∧
    (∀ q : Station, ((s.evaluateOne o).dir.origins.get q).published = (s.dir.origins.get q).published) :=
  by and_intros <;> (try intro) <;> first | rfl | (unfold State.evaluateOne; repeat' (first | rfl | (simp; done) | split | simp only [State.setOrg_origins, upd_get, State.setStandin_frame, State.floorTold, State.releaseCheck_values, State.evaluate, State.afterStateChange_frame]))

@[simp] theorem State.evaluate_values (s : State) :
    (∀ o : Station, (s.evaluate.dir.origins.get o).floor = (s.dir.origins.get o).floor) ∧
    (∀ o : Station, (s.evaluate.dir.origins.get o).known = (s.dir.origins.get o).known) ∧
    (∀ o : Station, (s.evaluate.dir.origins.get o).published = (s.dir.origins.get o).published) :=
  by
    unfold State.evaluate
    split
    · rename_i h
      clear h
      generalize stations = l
      induction l generalizing s with
      | nil => simp
      | cons o l ih => simpa using ih (s.evaluateOne o)
    · simp

@[simp] theorem State.afterStateChange_values (s : State) (before : BitVec 16) :
    (∀ o : Station, ((s.afterStateChange before).dir.origins.get o).floor = (s.dir.origins.get o).floor) ∧
    (∀ o : Station, ((s.afterStateChange before).dir.origins.get o).known = (s.dir.origins.get o).known) ∧
    (∀ o : Station, ((s.afterStateChange before).dir.origins.get o).published = (s.dir.origins.get o).published) :=
  by unfold State.afterStateChange; (repeat' split) <;> simp

@[simp] theorem State.floorTold_values (s : State) (o : Station) :
    (∀ q : Station, ((s.floorTold o).dir.origins.get q).floor = (s.dir.origins.get q).floor) ∧
    (∀ q : Station, ((s.floorTold o).dir.origins.get q).known = (s.dir.origins.get q).known) ∧
    (∀ q : Station, ((s.floorTold o).dir.origins.get q).held = (s.dir.origins.get q).held) ∧
    (∀ q : Station, ((s.floorTold o).dir.origins.get q).role = (s.dir.origins.get q).role) :=
  by unfold State.floorTold; simp; (repeat' split) <;> simp

@[simp] theorem State.raiseFloor_values (s : State) (o : Station) (f : Nat) :
    (∀ q : Station, ((s.raiseFloor o f).dir.origins.get q).role = (s.dir.origins.get q).role) :=
  by unfold State.raiseFloor; (repeat' split) <;> simp

@[simp] theorem State.tellFloor_values (s : State) (o : Station) (f : Nat) :
    (∀ q : Station, ((s.tellFloor o f).dir.origins.get q).role = (s.dir.origins.get q).role) :=
  by unfold State.tellFloor; (repeat' split) <;> simp

@[simp] theorem State.enterMute_values (s : State) :
    (∀ o : Station, (s.enterMute.dir.origins.get o).floor = (s.dir.origins.get o).floor) ∧
    (∀ o : Station, (s.enterMute.dir.origins.get o).known = (s.dir.origins.get o).known) ∧
    (∀ o : Station, (s.enterMute.dir.origins.get o).published = (s.dir.origins.get o).published) :=
  by unfold State.enterMute; (repeat' split) <;> simp

@[simp] theorem State.enterWithdrawn_values (s : State) :
    (∀ o : Station, (s.enterWithdrawn.dir.origins.get o).floor = (s.dir.origins.get o).floor) ∧
    (∀ o : Station, (s.enterWithdrawn.dir.origins.get o).known = (s.dir.origins.get o).known) ∧
    (∀ o : Station, (s.enterWithdrawn.dir.origins.get o).published = (s.dir.origins.get o).published) :=
  by unfold State.enterWithdrawn; (repeat' split) <;> simp

@[simp] theorem State.withdraw_values (s : State) :
    (∀ o : Station, (s.withdraw.dir.origins.get o).floor = (s.dir.origins.get o).floor) ∧
    (∀ o : Station, (s.withdraw.dir.origins.get o).known = (s.dir.origins.get o).known) ∧
    (∀ o : Station, (s.withdraw.dir.origins.get o).published = (s.dir.origins.get o).published) :=
  by unfold State.withdraw; (repeat' split) <;> simp

@[simp] theorem State.exhaust_values (s : State) (reason : StorageReason) (b : Block) :
    (∀ o : Station, ((s.exhaust reason b).dir.origins.get o).floor = (s.dir.origins.get o).floor) ∧
    (∀ o : Station, ((s.exhaust reason b).dir.origins.get o).known = (s.dir.origins.get o).known) ∧
    (∀ o : Station, ((s.exhaust reason b).dir.origins.get o).published = (s.dir.origins.get o).published) :=
  by unfold State.exhaust; (repeat' split) <;> simp

@[simp] theorem State.enterActive_values (s : State) :
    (∀ o : Station, (s.enterActive.dir.origins.get o).floor = (s.dir.origins.get o).floor) ∧
    (∀ o : Station, (s.enterActive.dir.origins.get o).known = (s.dir.origins.get o).known) ∧
    (∀ o : Station, (s.enterActive.dir.origins.get o).published = (s.dir.origins.get o).published) :=
  by unfold State.enterActive; (repeat' split) <;> simp

@[simp] theorem State.joinExit_values (s : State) :
    (∀ o : Station, (s.joinExit.dir.origins.get o).floor = (s.dir.origins.get o).floor) ∧
    (∀ o : Station, (s.joinExit.dir.origins.get o).known = (s.dir.origins.get o).known) ∧
    (∀ o : Station, (s.joinExit.dir.origins.get o).published = (s.dir.origins.get o).published) :=
  by unfold State.joinExit; (repeat' split) <;> simp

@[simp] theorem State.exhaustIfNoSlot_values (s : State) :
    (∀ o : Station, (s.exhaustIfNoSlot.dir.origins.get o).floor = (s.dir.origins.get o).floor) ∧
    (∀ o : Station, (s.exhaustIfNoSlot.dir.origins.get o).known = (s.dir.origins.get o).known) ∧
    (∀ o : Station, (s.exhaustIfNoSlot.dir.origins.get o).published = (s.dir.origins.get o).published) :=
  by unfold State.exhaustIfNoSlot; (repeat' split) <;> simp

@[simp] theorem State.setFull_values (s : State) (b : Bool) :
    (∀ o : Station, ((s.setFull b).dir.origins.get o).floor = (s.dir.origins.get o).floor) ∧
    (∀ o : Station, ((s.setFull b).dir.origins.get o).known = (s.dir.origins.get o).known) ∧
    (∀ o : Station, ((s.setFull b).dir.origins.get o).published = (s.dir.origins.get o).published) :=
  by unfold State.setFull; (repeat' split) <;> simp

@[simp] theorem State.judgeFull_values (s : State) :
    (∀ o : Station, (s.judgeFull.dir.origins.get o).floor = (s.dir.origins.get o).floor) ∧
    (∀ o : Station, (s.judgeFull.dir.origins.get o).known = (s.dir.origins.get o).known) ∧
    (∀ o : Station, (s.judgeFull.dir.origins.get o).published = (s.dir.origins.get o).published) :=
  by unfold State.judgeFull; (repeat' split) <;> simp

@[simp] theorem State.settleArray_values (s : State) :
    (∀ o : Station, (s.settleArray.dir.origins.get o).floor = (s.dir.origins.get o).floor) ∧
    (∀ o : Station, (s.settleArray.dir.origins.get o).known = (s.dir.origins.get o).known) ∧
    (∀ o : Station, (s.settleArray.dir.origins.get o).published = (s.dir.origins.get o).published) :=
  by unfold State.settleArray; (repeat' split) <;> simp

@[simp] theorem State.settle_values (s : State) :
    (∀ o : Station, (s.settle.dir.origins.get o).floor = (s.dir.origins.get o).floor) ∧
    (∀ o : Station, (s.settle.dir.origins.get o).known = (s.dir.origins.get o).known) ∧
    (∀ o : Station, (s.settle.dir.origins.get o).published = (s.dir.origins.get o).published) :=
  by unfold State.settle; (repeat' split) <;> simp

@[simp] theorem State.report_values (s : State) (before : BitVec 16) :
    (∀ o : Station, ((s.report before).dir.origins.get o).floor = (s.dir.origins.get o).floor) ∧
    (∀ o : Station, ((s.report before).dir.origins.get o).known = (s.dir.origins.get o).known) ∧
    (∀ o : Station, ((s.report before).dir.origins.get o).published = (s.dir.origins.get o).published) := by
  unfold State.report
  simp only []
  split <;> simp

end Sys2Proof.Machine
end

