-- ==== Sys2Proof/Tests/Slice0.lean ====
section
/-! SUPPORT. Tests: the refusals of WellFormed, a few happenings on small states, with the values that the manual's examples
give, and for every statement with hypotheses a state and operands that meet them. The group is the four-station group of
chapter 10: roster 0 to 3, R = 3, U = 2 µs, B = 200 ms, group tag 5Ah; the station is station 1. -/

namespace Sys2Proof.Tests

open Sys2Proof.Machine

-- One test after another: each waits for the kernel, and many at once would take a thread each.
set_option Elab.async false

/-! ## Ill-formed commands are refused -/

theorem test_wf_discard_taken : (Instr.selectFallCmdDiscard [0x01]).wellFormed = false := by decide
theorem test_wf_bad_cmd_known : (Instr.badCmd 0x2F).wellFormed = false := by decide
theorem test_wf_publish_short : (Instr.publish 2 [0xAB]).wellFormed = false := by decide
theorem test_wf_publish_long : (Instr.publish 257 [0xAB]).wellFormed = false := by decide
theorem test_wf_configure_six : (Instr.configure [1, 2, 3, 4, 5, 6]).wellFormed = false := by decide
theorem test_wf_symbol_zero : (Instr.symbolError (.low 16)).wellFormed = false := by decide
theorem test_wf_symbol_gap : (Instr.symbolError (.shortGap 8)).wellFormed = false := by decide
theorem test_wf_stray_start : (Instr.strayLow 64).wellFormed = false := by decide
theorem test_wf_start_short : (Instr.frameStart 96 55).wellFormed = false := by decide
theorem test_wf_bit_gap : (Instr.dataBit 40 16).wellFormed = false := by decide
theorem test_wf_bit_width : (Instr.dataBit 16 40).wellFormed = false := by decide
theorem test_wf_earliest_want : (Instr.earliestStartPasses (.want 0 1 9)).wellFormed = false := by decide
theorem test_wf_deadline_key : (Instr.wantDeadline ⟨0, 0⟩).wellFormed = false := by decide
theorem test_wf_reask_key : (Instr.stalledReaskDue ⟨0, 16777216⟩).wellFormed = false := by decide
theorem test_wf_slot : (Instr.ackSlotSampling 7 16).wellFormed = false := by decide
theorem test_wf_accepts : (Instr.publish 2 [0xAB, 0xCD]).wellFormed = true := by decide

/-! ## The states of the tests -/

/-- The configuration of station 1 of the four-station group. -/
def cfg : ConfigRecord := ⟨0x5A, 1, 0x000F, 3, 1, 1⟩

/-- A station in a state, with its record taken. -/
def station (st : StationState) : State :=
  { State.reset with resetLow := false, ctl := ⟨st, 0, false, some cfg⟩ }

/-- The same with its designated sets and roles in place. -/
def placed (st : StationState) : State := (station st).designate

/-! ## Examples of the manual -/

/-- The designated sets of the example of section 1.2. -/
theorem test_designated : [0, 1, 2, 3].map (designatedSet 0x000F 3) = [[0, 1, 2], [1, 2, 3], [2, 3, 0], [3, 0, 1]] := by
  decide

/-- The roles at station 1 in the same example. -/
theorem test_roles : [0, 1, 2, 3].map (fun o => ((placed .active).org o).role) = [.designated, .self, .none, .designated] := by
  decide

/-- The WANT of the example of section 5.1: its 68 covered bits hold 13 ONEs, and 84 bits follow its START. -/
theorem test_want_bits :
    ((frameBits .want 1 0x5A (wantBody 0 41 4)).take 68).count true = 13 ∧
      (frameBits .want 1 0x5A (wantBody 0 41 4)).length = 84 := by decide +kernel

/-- The first bits of that WANT: class 2, sender 1, kind 2. -/
theorem test_want_header : (frameBits .want 1 0x5A (wantBody 0 41 4)).take 10 =
    [true, false, false, false, false, true, false, false, true, false] := by decide +kernel

/-- A frame of one bit more than its length says is no message (R100). -/
theorem test_extra_bit : checkFrame 0x5A 0x000F 85
    (Assembly.empty.pushAll 0 (frameBits .want 1 0x5A (wantBody 0 41 4))) = .format := by decide +kernel

/-- The bands of R76 at their edges. -/
theorem test_bands : [3, 4, 7, 8, 23, 24, 39, 40, 55, 56, 71, 72, 127, 128].map classifyLow =
    [.glitch, .runt, .runt, .zero, .zero, .one, .one, .invalid, .invalid, .start, .start, .invalid, .invalid, .lineBreak] := by
  decide

/-- The slots and the end of the window at R = 3 (section 4.6). -/
theorem test_window : [1, 2, 3, 4].map slotStart = [3, 7, 11, 15] ∧ windowEnd 3 = 19 := by decide

/-! ## Single happenings -/

/-- A READ of a key below the floor, or of no seq, is refused (R174). -/
theorem test_read_bad : (match exec (.read 0 0) (placed .active) with
    | .next t => t.port.response
    | _ => none) = some ⟨0x11, [0x04], 0⟩ := by decide +kernel

/-- A PUBLISH of one byte in ACTIVE is answered ACCEPTED with seq 1 (R45). -/
theorem test_publish : (match exec (.publish 1 [0xAB]) (placed .active) with
    | .next t => (t.port.response, (t.org 1).published, (t.org 1).known)
    | _ => (none, 0, 0)) = (some ⟨0x10, [0x01, 0, 0, 1], 0⟩, 1, 1) := by decide +kernel

/-- A symbol error counts SYMBOL, and raises the threshold to 22 U at R = 3 (R81, R83). -/
theorem test_symbol_error :
    (match exec (.symbolError (.low 4)) { placed .active with line := { Line.start with receiver := .receiving } } with
    | .next t => (t.line.counters.symbol, t.line.threshold, t.line.receiver)
    | _ => (0, 0, .idle)) = (1, 22, .recovering) := by decide +kernel

/-- A warm start out of the arbitration field begins a break (R92). -/
theorem test_break : ((fun s : State => (s.line.tx, s.line.driven, s.ctl.stopping))
    { placed .active with line := { Line.start with tx := .arbitrating } }.warmStart) = (.breaking, true, true) := by decide

/-! ## Witnesses: the machine, the laws and the formats

Each theorem shows that the hypotheses of the statement it is named after, or of one of its clauses, are met. -/

theorem witness_front : { placed .active with pending := [.status, .notice] }.pending = .status :: [.notice] := rfl

theorem witness_empty : State.reset.pending = [] := rfl

/-- A safe state in which a command waits. -/
def queued : State := { station .active with pending := [.publish 1 [0xAB]] }

theorem witness_laws : (∃ t, step queued = .next t) ∧ queued.port.noticesLaw ∧ wantsLaw queued.repl.wants ∧
    queued.dir.law ∧ queued.rosterLaw ∧ queued.dir.heldLaw ∧ queueLimits queued.engine.queue ∧
    queued.array.flash.law ∧ queued.line.counters.law ∧ queued.tornLaw := by
  refine ⟨⟨_, rfl⟩, ⟨by decide, rfl⟩, ⟨by decide, List.Pairwise.nil⟩, ⟨List.Pairwise.nil, ?_⟩, rfl, ⟨by decide, ?_⟩,
    ⟨by decide, by decide⟩, ⟨rfl, rfl⟩, ?_, fun r h => nomatch h⟩
  · intro e h
    cases h
  · intro e h
    cases h
  · unfold Counters.law
    decide

theorem witness_run : (Instr.take).endsRun = false ∧ (∃ t, exec .take (placed .active) = .next t) ∧
    (Instr.take).endsStartStep = false ∧ ∀ e, Instr.take ≠ .configurationReadEnd e :=
  ⟨rfl, ⟨_, rfl⟩, rfl, fun _ h => Instr.noConfusion h⟩

theorem witness_run_ends : (placed .mute).ctl.state = .mute ∧ (placed .withdrawn).ctl.state = .withdrawn := ⟨rfl, rfl⟩

theorem witness_settle_still : State.reset.awake = false := rfl

/-- A station all of whose blocks are BAD but block 7, with so many free ones in its list. -/
def blocks (record : BlockRec) (free : List Block) (full : Bool) : State :=
  { placed .active with array := { State.reset.array with
      blocks := upd (.replicate 512 ⟨.bad, 0, 0, false, false⟩) 7 fun _ => record
      freeList := free, full := full } }

theorem blocks_block (record : BlockRec) (free : List Block) (full : Bool) (b : Block) :
    (blocks record free full).block b = if 7 = b then record else ⟨.bad, 0, 0, false, false⟩ := by
  have h (a : BlockRec) : (Vector.replicate 512 a).get b = a := Vector.getElem_replicate ..
  simp [blocks, State.block, h]

theorem witness_full_set : let s := blocks ⟨.closed, 32, 32, false, false⟩ [] false
    s.array.full = false ∧ s.freeCount ≤ 1 ∧ s.array.reclaim.victim = none ∧
      ∀ b, (s.block b).state = .closed → (s.block b).weak = false ∧ ¬(s.block b).live < (s.block b).used := by
  refine ⟨rfl, by decide, rfl, fun b => ?_⟩
  rw [blocks_block]
  split <;> decide

theorem witness_full_clear : (blocks ⟨.bad, 0, 0, false, false⟩ [1, 2, 3] true).array.full = true ∧
    3 ≤ (blocks ⟨.bad, 0, 0, false, false⟩ [1, 2, 3] true).freeCount ∧
    (blocks ⟨.bad, 0, 0, false, false⟩ [1, 2] true).freeCount ≤ 2 ∧
    2 ≤ (blocks ⟨.bad, 0, 0, false, false⟩ [1, 2] false).freeCount := by decide +kernel

theorem witness_victim :
    let weak := blocks ⟨.closed, 32, 32, true, false⟩ [] false
    let spare := blocks ⟨.closed, 32, 31, false, false⟩ [] false
    (weak.block 7).weak = true ∧ (∀ b, (weak.block b).state = .closed → 7 ≤ b) ∧
      (spare.block 7).live < (spare.block 7).used ∧ (∀ b, (spare.block b).weak = false) ∧
      (∀ b, (spare.block b).state = .closed → 7 = b) ∧ spare.freeCount < 8 ∧ spare.array.exhausted = false := by
  refine ⟨by decide +kernel, fun b => ?_, by decide +kernel, fun b => ?_, fun b => ?_, by decide, rfl⟩ <;>
    rw [blocks_block] <;> split <;> simp_all

theorem witness_take_over :
    let s := { blocks ⟨.closed, 32, 32, false, false⟩ [] true with retire := ⟨some 2, true⟩ }
    s.retire.requested = true ∧ s.array.full = true ∧ s.freeCount ≤ 2 ∧ s.array.failure.page = none ∧
      s.array.reclaim.buffer = none ∧ (blocks ⟨.closed, 32, 32, false, false⟩ [1, 2] false).array.full = false := by decide

/-- A station in JOINING with two free blocks. -/
def joining : State := { placed .joining with array := { State.reset.array with freeList := [1, 2] } }

theorem witness_join_exit : joining.array.full = false ∧ 2 ≤ joining.freeCount ∧ joining.repl.wants = [] ∧
    (∀ o : Station, (joining.org o).known ≤ (joining.org o).held) ∧
    (∀ p ∈ joining.designated joining.self, p ≠ joining.self → joining.available p = false) ∧
    (2 ∈ joining.designated joining.self ∧
      let s := joining.setPeer 2 fun e => { e with state := .live }
      s.available 2 = true ∧ (s.peer 2).beacon = none) := by decide +kernel

/-- Station 3, which holds for origin 0 only when it stands in for a holder: peer 2 is LIVE, and peer 1 silent. -/
def standing : State :=
  ({ placed .active with ctl := ⟨.active, 0, false, some { cfg with number := 3 }⟩ }.setPeer 2
    fun e => { e with state := .live }).setPeer 1 fun e => { e with state := .silent }

theorem witness_stand_in : standing.inRoster 0 = true ∧ (standing.designated 0).getLast? = some 2 ∧
    standing.self ∉ standing.designated 0 ∧
    (standing.self ∈ ((List.range 15).map fun i => (2 : Station) + Fin.ofNat 16 (i + 1)).filter (fun p =>
      standing.inRoster p && !(standing.designated 0).contains p && standing.available p)) ∧
    0 + 1 ≤ (((standing.designated 0).drop 1).filter fun p => !standing.available p).length := by decide +kernel

/-- The same with both holders LIVE, and the station standing for origin 0 no longer called for. -/
def relieved : State :=
  (standing.setPeer 1 fun e => { e with state := .live }).setOrg 0 fun r => { r with role := .standin, rank := 1 }

theorem witness_stand_in_over : (relieved.org 0).role = .standin ∧
    ¬(0 + 1 ≤ (((relieved.designated 0).drop 1).filter fun p => !relieved.available p).length) := by decide +kernel

theorem witness_stand_in_other : (placed .active).inRoster 9 = false ∧ (placed .active).self ∈ (placed .active).designated 0 := by
  decide +kernel

/-- Station 1 with a page of origin 2 that it has stored as a stand-in for station 3, which advertises so much of it. -/
def covering (held : Nat) (floor : Nat) : State :=
  let s := { placed .active with dir := { (placed .active).dir with
      entries := [⟨⟨0, 1⟩, .designated, 1, .live ⟨1, 0⟩ 5⟩, ⟨⟨2, 4⟩, .standin, 1, .live ⟨1, 1⟩ 6⟩] } }
  ((s.setStandin 2 fun _ => ⟨8, 4, 4⟩).setOrg 2 fun r => { r with floor := floor }).setPeer 3 fun e =>
    { e with state := .live, beacon := some ⟨false, false, false, 1, 1, [(3, 1), (2, held)]⟩ }

theorem witness_release_caught_up : let s := covering 4 1
    (s.standin 2).fromSeq ≠ 0 ∧ (∀ p, inMask (s.standin 2).mask p = true → p = 3) ∧ s.available 3 = true ∧
      (2, 4) ∈ ((s.peer 3).beacon.map (·.items)).getD [] ∧ (s.entry? ⟨2, 4⟩).isSome = true := by decide +kernel

theorem witness_release_law : (covering 4 1).dir.law ∧ ((covering 3 5).standin 2).toSeq < ((covering 3 5).org 2).floor ∧
    (covering 3 1).caughtUp 2 ((covering 3 1).standin 2) = false := by
  refine ⟨⟨?_, ?_⟩, by decide +kernel, by decide +kernel⟩
  · unfold Key.before
    decide +kernel
  · decide +kernel

/-- A beacon with the most items there can be. -/
def beacon4 : BeaconRec := ⟨true, true, true, 16777215, 16777215, [(0, 1), (1, 2), (2, 16777215), (3, 0)]⟩

theorem witness_fits : inMask 0x000F 3 = true ∧ (Message.beacon 3 255 0xFFFF beacon4).fits 0x000F ∧
    (Message.want 3 0 16777215 8).fits 0x000F ∧ (Message.repair 3 ⟨0, 1⟩ [0xAB]).fits 0x000F ∧
    (Message.page 3 ⟨3, 1⟩ [0xAB]).fits 0x000F := by
  refine ⟨by decide, ⟨by decide, by decide, by decide, by decide, by decide, by decide⟩, ⟨rfl, by decide, by decide, by decide, by decide⟩,
    ⟨rfl, by decide, by decide, by decide, by decide⟩, ⟨rfl, by decide, by decide, by decide, by decide⟩⟩

theorem witness_burst : [true, false].length = [false, true].length ∧
    codeword [true, false] (crcOf [true, false]) = [] ++ [true, false] ++ bitsOf 16 (crcOf [true, false]).toNat ∧
    codeword [false, true] (crcOf [true, false]) = [] ++ [false, true] ++ bitsOf 16 (crcOf [true, false]).toNat ∧
    [true, false].length ≤ 16 ∧ [true, false] ≠ [false, true] := by decide

theorem witness_odd : [true].length = [false].length ∧
    ((List.zip (codeword [true] (crcOf [true])) (codeword [false] (crcOf [true]))).countP fun e => e.1 != e.2) % 2 = 1 := by
  decide +kernel

theorem witness_layouts : (⟨0xFF, 3, 16777215, .mark, 256, 4294967295⟩ : PageHeader).seq ≤ seqMax ∧ Role.mark ≠ .none ∧
    StorageReason.erase ∈ [StorageReason.program, .erase, .weak] ∧ 4294967295 ≤ stampMax ∧
    [0x5A, 1, 0, 0x0F, 3, 1, 1].length = 7 := by decide

/-- A station whose newest record has its own number outside the roster. -/
def faulty (record : List Byte) : State :=
  { State.reset with
    resetLow := false
    array := { State.reset.array with
      flash := ⟨[(31, .written (record ++ bytes2 (crcOf (bitsOfBytes record)).toNat) [])], []⟩
      running := some ⟨.configRead, 0⟩ } }

theorem witness_record_bad : decodeRecord [0x5A, 16, 0, 0x0F, 3, 1, 1] = none ∧ decodeRecord [0x5A, 4, 0, 0x0F, 3, 1, 1] = none ∧
    decodeRecord [0x5A, 1, 0, 0x0F, 5, 1, 1] = none ∧ decodeRecord [0x5A, 1, 0, 0x0F, 3, 4, 1] = none ∧
    decodeRecord [0x5A, 1, 0, 0x0F, 3, 1, 16] = none := by decide

theorem witness_record_refused : (station .configFault).hostReady ∧ (station .configFault).recordBusy = false ∧
    (station .configFault).ctl.state = .configFault := ⟨⟨rfl, rfl, rfl⟩, rfl, rfl⟩

theorem witness_record_fault : (faulty [0x5A, 16, 0, 0x0F, 3, 1, 1]).array.running = some ⟨.configRead, 0⟩ ∧
    (faulty [0x5A, 16, 0, 0x0F, 3, 1, 1]).array.flash.newestRecord =
      some (.written ([0x5A, 16, 0, 0x0F, 3, 1, 1] ++ bytes2 (crcOf (bitsOfBytes [0x5A, 16, 0, 0x0F, 3, 1, 1])).toNat) []) := by
  decide +kernel

theorem witness_record_check : word2At [0, 0] 0 ≠ (crcOf (bitsOfBytes [0x5A, 1, 0, 0x0F, 3, 1, 1])).toNat := by decide +kernel

theorem witness_designated : 1 ≤ 4 ∧ 4 ≤ rosterSize 0x000F ∧ inMask 0x000F 3 = true ∧ inMask 0x000F 4 = false := by decide

theorem witness_record_good : (faulty [0x5A, 1, 0, 0x0F, 3, 1, 1]).array.running = some ⟨.configRead, 0⟩ ∧
    ((faulty [0x5A, 1, 0, 0x0F, 3, 1, 1]).array.flash.newestRecord.map fun c => c.record 4) = some (some cfg) ∧
    ((faulty [0x5A, 1, 0, 0x0F, 3, 1, 1]).array.flash.newestRecord.map fun c => c.record 5) = some none ∧
    { State.reset with array := { State.reset.array with running := some ⟨.configRead, 0⟩ } }.array.flash.newestRecord = none := by
  decide +kernel

/-! ## Witnesses: starts and the scan -/

theorem witness_cut_erase : { placed .active with array := { State.reset.array with running := some ⟨.erase 7, 0⟩ } }.array.running =
    some ⟨.erase 7, 0⟩ := rfl

/-- A station with an operation running over a flash. -/
def running (op : ArrayOp) (flash : Flash) : State :=
  { placed .active with array := { State.reset.array with flash := flash, running := some ⟨op, 0⟩ } }

theorem witness_cut :
    (running (.program .mark ⟨.mark, ⟨0x5A, 1, 2, .mark, [0, 0, 1]⟩⟩ ⟨511, 31⟩ 5) ⟨[(16383, .torn)], []⟩).tornLaw ∧
      (running (.tag .failure 511 .program 5) ⟨[], [(511, .torn)]⟩).tornLaw ∧
      (running (.configWrite 31 []) ⟨[(31, .torn)], []⟩).tornLaw :=
  ⟨fun _ h => by cases h; rfl, fun _ h => by cases h; rfl, fun _ h => by cases h; rfl⟩

theorem witness_reset_low : State.reset.resetLow = true ∧ (Instr.take).movesReset = false := ⟨rfl, rfl⟩

/-- A station that is stopping. -/
def stopped : State := { placed .active with ctl := ⟨.active, 0, true, some cfg⟩ }

theorem witness_stopping_end : stopped.resetLow = false ∧ stopped.ctl.stopping = true ∧ stopped.line.tx ≠ .breaking ∧
    stopped.line.driven = false ∧ stopped.array.running = none := ⟨rfl, rfl, by decide, rfl, rfl⟩

/-- A station whose RESTART has been answered. -/
def restarting (tx : Transmitter) : State :=
  { placed .active with
    port := { Port.start with selected := true, response := some ⟨0x2F, [0x00], 0⟩ }
    line := { Line.start with tx := tx, driven := tx == .sending } }

theorem witness_restart : (restarting .sending).port.response = some ⟨codeRestart, [0x00], 0⟩ ∧
    (restarting .sending).line.tx = .sending ∧ (restarting .acking).line.tx = .acking ∧
    (restarting .acking).ctl.stopping = false ∧ (restarting .acking).port.selected = true := ⟨rfl, rfl, rfl, rfl, rfl⟩

theorem witness_config_write : { station .unconfigured with
      array := { State.reset.array with running := some ⟨.configWrite 31 [], 0⟩ } }.array.running =
    some ⟨.configWrite 31 [], 0⟩ := rfl

/-- A scan at work. -/
def scanning (op : ArrayOp) (flash : Flash) : State :=
  { placed .scanning with array := { State.reset.array with flash := flash, running := some ⟨op, 0⟩, scan := some .start } }

theorem witness_scan_tag : ((scanning (.scanTag 510) ⟨[], []⟩).tagRead 510 false, (scanning (.scanTag 510) ⟨[], [(510, .torn)]⟩).tagRead 510 true,
      (scanning (.scanTag 1) ⟨[], [(1, .written [0, 0, 0, 0, 0, 0, 0, 0] [])]⟩).tagRead 1 false,
      (scanning (.scanTag 1) ⟨[], [(1, .written (encodeRetired .weak 9) [])]⟩).tagRead 1 false) =
    (.blank, .invalid, .factoryBad, .retired .weak 9) := by decide +kernel

/-- The scan at the tag of block 511, with or without a mark found. -/
def lastTag (mark : Option (Loc × Nat)) : State :=
  { placed .scanning with array := { State.reset.array with
      flash := ⟨[], [(511, .written (encodeRetired .weak 9) [])]⟩, running := some ⟨.scanTag 511, 0⟩
      scan := some { Scan.start with mark := mark } } }

theorem witness_scan_end : (lastTag none).tagRead 511 false = .retired .weak 9 ∧ (lastTag none).ctl.state = .scanning ∧
    (lastTag none).array.badTable.length < 32 ∧ (lastTag none).array.failure = ⟨[], none, none⟩ ∧
    (lastTag none).array.reclaim.buffer = none ∧ (511 : Block) ∉ (lastTag none).array.freeList ∧
    Scan.start.openBest = none ∧ (lastTag (some (⟨1, 0⟩, 5))).array.scan.bind (·.mark) = some (⟨1, 0⟩, 5) := by
  decide +kernel

/-- A page header of origin 0, for which station 1 is DESIGNATED. -/
def header : PageHeader := ⟨0x5A, 0, 1, .designated, 1, 5⟩

theorem witness_scan_slot :
    let s := scanning (.scanSlot ⟨1, 30⟩) ⟨[(62, .written header.encode [0xAB])], []⟩
    s.array.running = some ⟨.scanSlot ⟨1, 30⟩, 0⟩ ∧ s.array.scan = some .start ∧ Scan.start.below = none ∧
      s.headerRead ⟨1, 30⟩ false = .valid header ∧ s.headerRead ⟨1, 30⟩ true = .invalid ∧ header.tag = s.cfg.tag ∧
      header.role ≠ .mark ∧ s.inRoster 0 = true ∧ (s.org 0).role = .designated ∧ s.entry? ⟨0, 1⟩ = none ∧
      (s.org 0).floor ≤ 1 := by decide +kernel

/-- Headers of the own origin, and of origin 2 as a stand-in stores it. -/
def ownHeader : PageHeader := ⟨0x5A, 1, 1, .self, 1, 5⟩

def standInHeader : PageHeader := ⟨0x5A, 2, 9, .standin, 1, 5⟩

theorem witness_scan_roles :
    let s := scanning (.scanSlot ⟨1, 31⟩) ⟨[(63, .written ownHeader.encode [0xAB])], []⟩
    let t := scanning (.scanSlot ⟨1, 31⟩) ⟨[(63, .written standInHeader.encode [0xAB])], []⟩
    s.headerRead ⟨1, 31⟩ false = .valid ownHeader ∧ (s.org 1).role = .self ∧
      t.headerRead ⟨1, 31⟩ false = .valid standInHeader ∧ (t.org 2).role = .none ∧ t.inRoster 2 = true ∧
      t.entry? ⟨2, 9⟩ = none ∧ (t.org 2).floor ≤ 9 ∧ { standInHeader with role := .designated }.role ≠ .standin := by
  decide +kernel

theorem witness_scan_twice :
    let s (stamp : Nat) : State := { scanning (.scanSlot ⟨1, 30⟩) ⟨[(62, .written header.encode [0xAB])], []⟩ with
      dir := { (placed .scanning).dir with entries := [⟨⟨0, 1⟩, .designated, 1, .live ⟨2, 0⟩ stamp⟩] } }
    (s 4).headerRead ⟨1, 30⟩ false = .valid header ∧
      (s 4).entry? ⟨0, 1⟩ = some ⟨⟨0, 1⟩, .designated, 1, .live ⟨2, 0⟩ 4⟩ ∧ 4 < header.stamp ∧
      (s 6).entry? ⟨0, 1⟩ = some ⟨⟨0, 1⟩, .designated, 1, .live ⟨2, 0⟩ 6⟩ ∧ header.stamp ≤ 6 := by decide +kernel

theorem witness_classify : (scanning (.scanSlot ⟨510, 31⟩) ⟨[], []⟩).headerRead ⟨510, 31⟩ true = .blank ∧
    (scanning (.scanSlot ⟨510, 31⟩) ⟨[(16351, .torn)], []⟩).headerRead ⟨510, 31⟩ true = .invalid ∧
    Scan.start.tagInvalid = false ∧ Scan.start.highest = none ∧
    ({ Scan.start with tagInvalid := true }).tagInvalid = true ∧
    ({ Scan.start with highest := some 30, blockStamp := some 9 } : Scan).highest = some 30 ∧
    (lastTag (some (⟨1, 0⟩, 5))).array.scan.bind (·.below) = none := by decide +kernel

theorem witness_scan_mark :
    let s := scanning (.scanMark ⟨1, 0⟩ 5) ⟨[(32, .written (⟨0x5A, 1, 4, .mark, 3, 5⟩ : PageHeader).encode [0, 0, 7])], []⟩
    s.markRead ⟨1, 0⟩ 4 = some (4, 7) ∧ s.markRead ⟨1, 0⟩ 5 = none ∧ s.inRoster s.self = true ∧ s.ctl.state = .scanning ∧
      Scan.start.unrecorded = none ∧ Scan.start.maxStamp < 4294967295 ∧ s.array.failure = ⟨[], none, none⟩ ∧
      s.array.reclaim.buffer = none := by decide +kernel

/-- A scan at a slot that holds a mark page of an origin. -/
def atMark (o : Station) (l : Loc) (c : Scan) : State :=
  let s := scanning (.scanSlot l) ⟨[(l.number, .written (⟨0x5A, o, 4, .mark, 3, 9⟩ : PageHeader).encode [0, 0, 7])], []⟩
  { s with array := { s.array with scan := some c } }

theorem witness_scan_marks :
    (atMark 1 ⟨511, 31⟩ .start).headerRead ⟨511, 31⟩ false = .valid ⟨0x5A, 1, 4, .mark, 3, 9⟩ ∧
      (atMark 2 ⟨1, 30⟩ .start).headerRead ⟨1, 30⟩ false = .valid ⟨0x5A, 2, 4, .mark, 3, 9⟩ ∧
      (placed .scanning).self = 1 ∧ { header with tag := 0x5B }.tag ≠ cfg.tag ∧ (placed .scanning).inRoster 9 = false ∧
      ({ Scan.start with below := some 10 } : Scan).below = some 10 ∧
      (atMark 1 ⟨5, 31⟩ { Scan.start with below := some 10 }).nextGood 6 = some 6 ∧
      (atMark 1 ⟨511, 31⟩ { Scan.start with below := some 10 }).nextGood 512 = none := by decide +kernel

theorem witness_scan_left : ({ Scan.start with unrecorded := some 8 } : Scan).unrecorded = some 8 ∧
    4294967295 ≤ ({ Scan.start with maxStamp := 4294967295 } : Scan).maxStamp ∧
    ({ Scan.start with openBest := some (9, 33) } : Scan).openBest = some (9, 33) ∧
    (placed .scanning).openBlock = none ∧ joining.array.freeList = 1 :: [2] ∧ joining.array.exhausted = false := by
  decide +kernel

theorem witness_scan_pass : { placed .scanning with array := .start ⟨[], []⟩ 0 }.nextGood 1 = some 1 := by decide +kernel

/-! ## Witnesses: the host port -/

theorem witness_command : (Instr.configure [0, 0, 0, 0, 0, 0, 0]).hostBytes? = some (0x20, [0, 0, 0, 0, 0, 0, 0]) ∧
    (Instr.badCmd 0xFF).hostBytes? = some (0xFF, []) ∧ (station .active).port.selected = false ∧
    (station .active).ctl.state ∉ (Instr.configure [0, 0, 0, 0, 0, 0, 0]).acceptingStates ∧ stopped.ctl.stopping = true ∧
    (station .active).ctl.state ∈ (Instr.publish 1 [0xAB]).acceptingStates := by decide

theorem witness_open_period : (restarting .quiet).port.selected = true ∧ (Instr.take).hostBytes? = some (0x12, []) ∧
    { (restarting .quiet) with port := { Port.start with selected := true } }.port.response = none ∧
    commandTaken [0x10, 1, 0] = false := by decide

theorem witness_ready : (placed .active).hostReady ∧ (0xFF#8) ∉ commandCodes ∧ (placed .active).port.read = .idle ∧
    (placed .active).ctl.state ∈ [.listening, .joining, .active, .mute, .withdrawn] :=
  ⟨⟨rfl, rfl, rfl⟩, by decide, rfl, by decide⟩

theorem witness_take : { placed .mute with port := { Port.start with read := .held, readBuffer := some ⟨.ok, ⟨0, 1⟩, [0xAB]⟩ } }.hostReady ∧
    { placed .mute with port := { Port.start with read := .fetching } }.port.read = .fetching := ⟨⟨rfl, rfl, rfl⟩, rfl⟩

theorem witness_notice : { placed .active with port := { Port.start with notices := [.fullChange true], attn := true } }.hostReady ∧
    (placed .active).port.notices = [] ∧ (placed .active).ctl.stopping = false := ⟨⟨rfl, rfl, rfl⟩, rfl, rfl⟩

theorem witness_counts : (placed .mute).ctl.state ≠ .unconfigured ∧ (placed .mute).ctl.state ≠ .configFault ∧
    (⟨65535, 0, 1, 2, 3, 4, 5, 6⟩ : Counters).law ∧ 16 < 17 := by
  refine ⟨by decide, by decide, ?_, by decide⟩
  unfold Counters.law
  decide

theorem witness_counts_broken : { placed .active with
      port := { Port.start with selected := true, response := some ⟨0x03, [0x00], 0⟩ } }.port.response = some ⟨0x03, [0x00], 0⟩ ∧
    ∃ t, exec .selectRise (placed .active) = .next t := ⟨rfl, _, rfl⟩

theorem witness_clocked : { placed .active with
      port := { Port.start with response := some ⟨0x02, 0x00 :: [1, 2], 2⟩ } }.port.response = some ⟨0x02, 0x00 :: [1, 2], 2⟩ ∧
    2 ≤ [1, 2].length ∧ [1, 2].length + 1 ≤ 3 := ⟨rfl, by decide, by decide⟩

theorem witness_numbers : (0xFF#8).toNat = 255 ∧ (0x0F#8).toNat = (15 : Station).val ∧ (15 : Station) ≠ (placed .active).self ∧
    (0x01#8).toNat = (placed .active).self.val := by decide

/-- A station whose own origin has reached a frontier. -/
def published (q : Nat) : State := (placed .active).setOrg 1 fun r => { r with published := q, known := q }

theorem witness_publish : (published 0).hostReady ∧ (published 0).inRoster (published 0).self = true ∧
    max ((published 16777214).org 1).published ((published 16777214).org 1).known + 1 ≤ 16777215 ∧
    16777215 ≤ max ((published 16777215).org 1).published ((published 16777215).org 1).known ∧
    (published 0).entry? ⟨1, 1⟩ = none ∧ ((published 0).org 1).floor ≤ 1 ∧ (published 0).repl.publish.phase = .idle ∧
    (published 0).array.full = false := ⟨⟨rfl, rfl, rfl⟩, by decide +kernel⟩

theorem witness_publish_refused : { published 0 with array := { State.reset.array with full := true } }.array.full = true ∧
    { published 0 with repl := { Replication.start with publish := { Publish.start with phase := .done } } }.repl.publish.phase ≠ .idle := by
  decide +kernel

/-- A page of origin 0 that the station holds LIVE in slot 62, as a DESIGNATED holder. -/
def holding (st : StationState) : State :=
  { placed st with
    dir := { (placed st).dir with entries := [⟨⟨0, 1⟩, .designated, 1, .live ⟨1, 30⟩ 5⟩] }
    array := { State.reset.array with flash := ⟨[(62, .written header.encode [0xAB])], []⟩ } }

/-- The same page still LANDING in the lowest buffer. -/
def landing (st : StationState) : State :=
  { placed st with
    dir := { (placed st).dir with entries := [⟨⟨0, 1⟩, .designated, 1, .landing (.landing 0)⟩] }
    repl := { Replication.start with
      landing := { Landing.start with
        buffers := upd Landing.start.buffers 0 fun _ => some ⟨⟨0, 1⟩, .designated, [0xAB]⟩, queue := [0], granted := some 0 } } }

theorem witness_read : (holding .active).hostReady ∧ (holding .active).inRoster 0 = true ∧ (holding .active).inRoster 15 = false ∧
    ((holding .active).org 0).floor ≤ (0x000001#24).toNat ∧ (0x000000#24).toNat = 0 ∧
    (((placed .active).setOrg 0 fun r => { r with floor := 2 }).org 0).floor = 2 ∧
    (holding .active).entry? ⟨0, 1⟩ = some ⟨⟨0, 1⟩, .designated, 1, .live ⟨1, 30⟩ 5⟩ ∧
    (landing .active).entry? ⟨0, 1⟩ = some ⟨⟨0, 1⟩, .designated, 1, .landing (.landing 0)⟩ ∧
    (placed .mute).entry? ⟨0, 1⟩ = none := ⟨⟨rfl, rfl, rfl⟩, by decide +kernel⟩

theorem witness_retire : (published 4).hostReady ∧ ((published 4).org 1).floor ≤ (0x000005#24).toNat ∧
    (0x000005#24).toNat ≤ ((published 4).org 1).published + 1 ∧ ((published 4).org 1).published + 1 < (0x000006#24).toNat ∧
    (0x000000#24).toNat < ((published 4).org 1).floor ∧ (published 4).retire.marking = none ∧
    { published 4 with retire := ⟨some 2, true⟩ }.retire.marking ≠ none := ⟨⟨rfl, rfl, rfl⟩, by decide +kernel⟩

theorem witness_configure : decodeRecord [0x5A, 1, 0, 0x0F, 3, 1, 1] ≠ none ∧ (station .unconfigured).hostReady ∧
    (faulty []).recordBusy = true ∧ (faulty []).array.flash.slots.read 31 ≠ none ∧
    (station .unconfigured).array.flash.slots.read (0 : Slot).val = none :=
  ⟨by decide, ⟨rfl, rfl, rfl⟩, by decide +kernel⟩

theorem witness_configure_full : ∀ i : Slot, Store.read ((List.range 32).map fun i => (i, FlashCell.torn)) i.val ≠ none := by
  decide

/-! ## Witnesses: the line -/

/-- A station with its receiver and transmitter in a state. -/
def onLine (r : Receiver) (t : Transmitter) : State :=
  { placed .active with line := { Line.start with receiver := r, tx := t, threshold := 6 } }

theorem witness_reception : (onLine .idle .quiet).resetLow = false ∧ (onLine .idle .quiet).ctl.config.isSome = true ∧
    (onLine .recovering .quiet).line.receiver = .recovering ∧ (onLine .window .quiet).line.receiver = .window ∧
    { onLine .receiving .quiet with line := { Line.start with receiver := .receiving, bitCount := some 27 } }.line.bitCount = some 27 := by
  decide

/-- A low in RECOVERING restarts the uninterrupted high: in the example of section 10.4 the pulse of slot 1 ends at
888 µs and the receiver enters IDLE 22 U later, at 932 µs (R81). -/
theorem test_recovery_restarts :
    let s : State := { onLine .recovering .quiet with
      now := 888 * 16, line := { Line.start with receiver := .recovering, recovery := 22, since := 876 * 16 } }
    (match exec (.strayLow 16) s with
      | .next t => (match exec .recoveryPeriodEnd t with
        | .next u => (u.now, u.line.receiver, u.line.counters.symbol)
        | _ => (0, .window, 0))
      | _ => (0, .window, 0)) = (932 * 16, .idle, 0) := by decide +kernel

/-- A station that sends has released its START, 4 U after it began, once the line rises (R82): here after 5 U. -/
theorem test_release :
    let s : State := { onLine .receiving .starting with
      now := 160
      line := { Line.start with receiver := .idle, tx := .starting, driven := true, high := false }
      engine := { Engine.start with sending := some ⟨.beacon, [true], 0, none⟩ } }
    (match exec (.frameStart 0 64) s with
      | .next t => (t.line.driven, t.line.txSince, t.line.receiver, s.lineOutput)
      | _ => (true, 0, .idle, false)) = (false, 128, .receiving, false) := by decide +kernel

/-- A station at the end gap of a message's frame, whose sender is in a state of the membership table. -/
def hearing (s : State) (m : Message) (peer : PeerState) : State :=
  ({ s with
    line := { Line.start with receiver := .receiving, bitCount := some (expectedBits m.body.length) }
    engine := { s.engine with assembly := Assembly.empty.pushAll 0 (frameBits m.kind m.sender 0x5A m.body) } }).setPeer m.sender
      fun e => { e with state := peer }

theorem witness_failed : let s := hearing (placed .active) (.want 2 0 1 1) .live
    s.frameEnds ∧ ({ s with line := { s.line with bitCount := some 27 } }).frameEnds ∧
      checkFrame 0x5A 0x000F 85 s.engine.assembly = .format ∧ checkFrame 0x5A 0x0003 84 s.engine.assembly = .foreign ∧
      checkFrame 0x5A 0x000F 84 { s.engine.assembly with check := 0 } = .crc ∧ truncated 84 (some 84) = false := by
  refine ⟨⟨rfl, rfl, rfl, rfl, rfl⟩, ⟨rfl, rfl, rfl, rfl, rfl⟩, by decide +kernel, by decide +kernel, by decide +kernel, rfl⟩

theorem witness_duplicate : (hearing (placed .withdrawn) (.want 1 0 1 1) .live).hears (.want 1 0 1 1) ∧
    (hearing (placed .mute) (.want 1 0 1 1) .live).hears (.want 1 0 1 1) ∧ (Message.want 1 0 1 1).sender = (placed .mute).self := by
  refine ⟨⟨⟨rfl, rfl, rfl, rfl, rfl⟩, rfl, by decide, rfl, by decide +kernel⟩,
    ⟨⟨rfl, rfl, rfl, rfl, rfl⟩, rfl, by decide, rfl, by decide +kernel⟩, by decide⟩

/-- The beacon of station 2 after a first page. -/
def beacon : Message := .beacon 2 3 0x000F ⟨false, false, false, 1, 1, [(2, 1), (0, 0), (15, 9)]⟩

theorem witness_heard : (hearing (placed .active) (.want 2 0 1 1) .absent).hears (.want 2 0 1 1) ∧
    (hearing (placed .active) (.want 2 0 1 1) .excluded).hears (.want 2 0 1 1) ∧
    (hearing (placed .active) beacon .silent).hears beacon ∧
    (hearing (placed .active) (.beacon 2 2 0x000F beacon4) .live).hears (.beacon 2 2 0x000F beacon4) := by
  refine ⟨⟨⟨rfl, rfl, rfl, rfl, rfl⟩, rfl, by decide, rfl, by decide +kernel⟩,
    ⟨⟨rfl, rfl, rfl, rfl, rfl⟩, rfl, by decide, rfl, by decide +kernel⟩,
    ⟨⟨rfl, rfl, rfl, rfl, rfl⟩, rfl, by decide, rfl, by decide +kernel⟩,
    ⟨⟨rfl, rfl, rfl, rfl, rfl⟩, rfl, by decide, rfl, by decide +kernel⟩⟩

/-- The first page of origin 0 as a PAGE. -/
def page : Message := .page 0 ⟨0, 1⟩ [0xAB]

theorem witness_page : let s := hearing (placed .joining) page .live
    s.hears page ∧ (s.peer 0).state = .live ∧ (s.org 0).role = .designated ∧ 2 ≤ s.cfg.factor ∧ s.array.full = false ∧
      (s.org 0).floor ≤ 1 ∧ s.entry? ⟨0, 1⟩ = none ∧ s.repl.landing.buffers.get 0 = none :=
  ⟨⟨⟨rfl, rfl, rfl, rfl, rfl⟩, rfl, by decide, rfl, by decide +kernel⟩, by decide +kernel⟩

theorem witness_page_held : let s := hearing (landing .active) page .live
    s.hears page ∧ (s.peer 0).state = .live ∧ (s.org 0).role = .designated ∧ s.entry? ⟨0, 1⟩ ≠ none :=
  ⟨⟨⟨rfl, rfl, rfl, rfl, rfl⟩, rfl, by decide, rfl, by decide +kernel⟩, by decide +kernel⟩

/-- A PAGE of origin 2, for which station 1 stands in at rank 2, or whose pages it does not hold. -/
def standInPage : Message := .page 2 ⟨2, 7⟩ [0xAB]

theorem witness_page_stand_in :
    let s := hearing ((placed .listening).setOrg 2 fun r => { r with role := .standin, rank := 2 }) standInPage .live
    let t := hearing (placed .active) standInPage .live
    s.hears standInPage ∧ (s.org 2).role = .standin ∧ s.ctl.state = .listening ∧ s.entry? ⟨2, 7⟩ = none ∧
      t.hears standInPage ∧ (t.org 2).role = .none := by
  refine ⟨⟨⟨rfl, rfl, rfl, rfl, rfl⟩, rfl, by decide, rfl, by decide +kernel⟩, by decide +kernel, rfl, rfl,
    ⟨⟨rfl, rfl, rfl, rfl, rfl⟩, rfl, by decide, rfl, by decide +kernel⟩, by decide +kernel⟩

theorem witness_page_mute : (hearing (placed .mute) page .live).hears page ∧
    (hearing (placed .withdrawn) page .live).hears page :=
  ⟨⟨⟨rfl, rfl, rfl, rfl, rfl⟩, rfl, by decide, rfl, by decide +kernel⟩,
    ⟨⟨rfl, rfl, rfl, rfl, rfl⟩, rfl, by decide, rfl, by decide +kernel⟩⟩

/-- A station none of whose landing buffers is free. -/
def crowded : State :=
  { placed .active with repl := { Replication.start with
      landing := { Landing.start with buffers := .replicate 4 (some ⟨⟨2, 1⟩, .designated, [0xAB]⟩) } } }

theorem witness_page_not_stored : let s := hearing crowded page .live
    s.hears page ∧ s.entry? ⟨0, 1⟩ = none ∧ ∀ i : Fin 4, s.repl.landing.buffers.get i ≠ none :=
  ⟨⟨⟨rfl, rfl, rfl, rfl, rfl⟩, rfl, by decide, rfl, by decide +kernel⟩, by decide +kernel⟩

theorem witness_want : let s := hearing (holding .withdrawn) (.want 2 0 1 1) .live
    s.hears (.want 2 0 1 1) ∧ (s.peer 2).state = .live ∧ s.tx? (.repair ⟨0, 1⟩) = none ∧
      kindCount s.engine.queue .repair < 4 ∧ s.entry? ⟨0, 1⟩ = some ⟨⟨0, 1⟩, .designated, 1, .live ⟨1, 30⟩ 5⟩ ∧
      (s.org 0).floor ≤ 1 :=
  ⟨⟨⟨rfl, rfl, rfl, rfl, rfl⟩, rfl, by decide, rfl, by decide +kernel⟩, by decide +kernel⟩

theorem witness_want_eight : (hearing (holding .joining) (.want 2 0 16777210 8) .live).hears (.want 2 0 16777210 8) ∧
    (hearing (holding .joining) (.want 2 0 1 8) .live).hears (.want 2 0 1 8) :=
  ⟨⟨⟨rfl, rfl, rfl, rfl, rfl⟩, rfl, by decide, rfl, by decide +kernel⟩,
    ⟨⟨rfl, rfl, rfl, rfl, rfl⟩, rfl, by decide, rfl, by decide +kernel⟩⟩

/-- A waiting entry for a target. -/
def waiting (t : TxTarget) : TxEntry := ⟨t, 0, 0, true, false, false, false, false⟩

theorem witness_want_silent : (hearing (placed .listening) (.want 2 0 1 1) .live).hears (.want 2 0 1 1) ∧
    (hearing (placed .active) (.want 2 0 1 1) .live).entry? ⟨0, 1⟩ = none ∧
    { holding .active with engine := { Engine.start with queue := [waiting (.repair ⟨0, 1⟩)] } }.tx? (.repair ⟨0, 1⟩) =
      some (waiting (.repair ⟨0, 1⟩)) ∧
    4 ≤ kindCount ([1, 2, 3, 4].map fun q => waiting (.repair ⟨2, q⟩)) .repair :=
  ⟨⟨⟨rfl, rfl, rfl, rfl, rfl⟩, rfl, by decide, rfl, by decide +kernel⟩, by decide +kernel⟩

/-- A station that wants and fetches the first page of origin 0. -/
def wanting : State :=
  { placed .active with repl := { Replication.start with
      wants := [⟨⟨0, 1⟩, .idle, 0, none⟩], fetch := some ⟨⟨0, 1⟩, 1, some 9, false⟩ } }

theorem witness_repair : let s := hearing wanting (.repair 2 ⟨0, 1⟩ [0xAB]) .live
    s.hears (.repair 2 ⟨0, 1⟩ [0xAB]) ∧ s.repl.wants.any (fun w => w.key == ⟨0, 1⟩) = true ∧
      s.repl.fetch = some ⟨⟨0, 1⟩, 1, some 9, false⟩ ∧ s.repl.landing.buffers.get 0 = none ∧ s.entry? ⟨0, 1⟩ = none ∧
      s.inTransmission (.repair ⟨0, 1⟩) = false :=
  ⟨⟨⟨rfl, rfl, rfl, rfl, rfl⟩, rfl, by decide, rfl, by decide +kernel⟩, by decide +kernel⟩

/-- A station with one entry queued, its line idle. -/
def offering (t : TxTarget) : State :=
  { onLine .idle .quiet with engine := { Engine.start with queue := [waiting t] } }

theorem witness_start_moment : (offering .beacon).mayBegin = true ∧
    (offering (.page ⟨1, 1⟩)).engine.queue.find? (fun e => e.ready (6 * (16 * 2 ^ 1))) = some (waiting (.page ⟨1, 1⟩)) ∧
    (offering (.repair ⟨0, 1⟩)).engine.queue.find? (fun e => e.ready 0) = some (waiting (.repair ⟨0, 1⟩)) := by decide +kernel

/-- A station sending a frame of an entry of its queue. -/
def sending (e : TxEntry) (tx : Transmitter) (rest : List Bool) (last : Option Bool) : State :=
  { onLine .receiving tx with engine := { Engine.start with queue := [e], sending := some ⟨e.target, rest, 0, last⟩ } }

theorem witness_symbol : (sending (waiting .beacon) .starting [true] none).line.tx = .starting ∧
    (sending (waiting .beacon) .sending [] (some true)).engine.sending = some ⟨.beacon, [], 0, some true⟩ := by decide

theorem witness_loss : (sending (waiting .beacon) .arbitrating [true] (some false)).line.tx = .arbitrating ∧
    (sending (waiting .beacon) .arbitrating [true] (some false)).tx? .beacon = some (waiting .beacon) ∧
    (sending { waiting .beacon with cancelled := true } .sending [] none).tx? .beacon =
      some { waiting .beacon with cancelled := true } := by decide

theorem witness_sent : (sending (waiting (.want 0 1 8)) .quiet [] (some true)).tx? (.want 0 1 8) = some (waiting (.want 0 1 8)) ∧
    (sending { waiting .beacon with renew := true } .quiet [] none).tx? .beacon = some { waiting .beacon with renew := true } ∧
    (sending { waiting (.want 0 1 1) with byFetch := true } .quiet [] none).ctl.state ≠ .mute := by decide

/-- A station in an ack window. -/
def windowed (mine : Bool) (acked : BitVec 8) (attempt : Nat) : State :=
  { onLine .window .acking with
    line := { Line.start with receiver := .window, tx := .acking, window := some ⟨0, mine, acked⟩, pendingAck := some 4 }
    repl := { Replication.start with publish := ⟨.awaitAcks, 1, attempt, 1, none, none, false, some [0xAB]⟩ } }

theorem witness_ack : (windowed false 0 1).line.pendingAck = some 4 ∧ (windowed false 0 1).line.driven = false ∧
    { windowed false 0 1 with line := { Line.start with tx := .acking, driven := true } }.line.driven = true ∧
    (windowed true 0 1).line.window = some ⟨0, true, 0⟩ ∧ 4 ≤ 2 * ((windowed true 0 1).cfg.factor - 1) := by decide

theorem witness_ack_in_break : { onLine .recovering .acking with
      line := { Line.start with receiver := .recovering, tx := .acking, driven := true, high := false } }.line.driven = true ∧
    { onLine .recovering .acking with
      line := { Line.start with tx := .acking, driven := true, high := false } }.lineActive = true := by decide

/-- A START that meets a collision leaves the line low and the idle count 0, and the station cannot begin again until the
line has risen, here 6 U after the fall 1/16 U before its own (R75, R79, R86). -/
theorem test_start_collision :
    (match exec (.startMoment 1) (offering .beacon) with
      | .next t => (match exec .collision t with
        | .next u => (match exec (.strayLow 96) u with
          | .next v => (t.idleCount, u.idleCount, u.mayBegin, u.line.receiver, v.line.idleRef - t.now, v.level)
          | _ => (1, 1, true, .window, 0, false))
        | _ => (1, 1, true, .window, 0, false))
      | _ => (1, 1, true, .window, 0, false)) = (0, 0, false, .idle, 95 * 2, true) := by decide +kernel

/-- A recovery period that ends late leaves the rise that was told: 22 U of high, and an idle count that runs from the rise
(R79, R81). -/
theorem test_late_recovery :
    let s : State := { onLine .recovering .quiet with
      now := 40 * 32, line := { Line.start with since := 320, idleRef := 320, recovery := 22 } }
    (match exec .recoveryPeriodEnd s with
      | .next t => (t.now, t.line.since, t.idleCount)
      | _ => (0, 0, 0)) = (40 * 32, 320, 30 * 32) := by decide +kernel

/-- In WINDOW the idle count is 0 until the window ends, 3 U + 8 U × 2 after its start (R79, R88). -/
theorem test_window_idle_count :
    ({ windowed false 0 1 with now := 18 * 32 }.idleCount, { windowed false 0 1 with now := 20 * 32 }.idleCount) =
      (0, 32) := by decide +kernel

/-- The low after a short gap of 6/16 U is measured from the end of that gap (R75, R80). -/
theorem test_short_gap :
    (match exec (.symbolError (.shortGap 6)) (onLine .receiving .quiet) with
      | .next t => (t.line.high, t.line.since)
      | _ => (true, 0)) = (false, 12) := by decide +kernel

/-- The command byte, the argument and the turnaround byte are 00h, and the status byte follows (R165). -/
theorem test_turnaround :
    (match exec (.peer 16) (station .active) with
      | .next t => (t.dataOut, t.sends 0, t.sends 2, t.sends 3, t.sends 4)
      | _ => (none, none, none, none, none)) =
      (some 0, some 0, some 0, some Status.badArg.byte, some 0) := by decide +kernel

/-- The own ack pulse does not date a low: a low in which it falls is a BREAK 8 U after its own fall (R75, R93), the
pulse of slot 4 ending at 18 U and the BREAK being told then. -/
theorem test_break_from_fall :
    (match exec .ackPulse (windowed false 0 1) with
      | .next t => (match exec .ackPulseEnd t with
        | .next u => (match exec .lineBreak u with
          | .next v => (t.now, t.level, u.now, v.line.high, v.line.since)
          | _ => (0, true, 0, true, 0))
        | _ => (0, true, 0, true, 0))
      | _ => (0, true, 0, true, 0)) = (16 * 32, false, 18 * 32, false, 10 * 32) := by decide +kernel

theorem witness_window : (windowed true 0b110 1).repl.publish.phase = .awaitAcks ∧
    (windowed true 0b110 1).cfg.factor - 1 ≤ ((List.range 8).filter (0b110#8).getLsbD).length ∧
    ((List.range 8).filter (0b100#8).getLsbD).length < (windowed true 0b100 2).cfg.factor - 1 ∧
    (windowed true 0b100 2).repl.publish.attempt < 3 ∧ 3 ≤ (windowed true 0b100 3).repl.publish.attempt ∧
    (windowed false 0 1).line.window = some ⟨0, false, 0⟩ := by decide

theorem witness_break : (onLine .idle .breaking).line.tx = .breaking ∧ (onLine .idle .quiet).line.window = none ∧
    { onLine .recovering .quiet with line := { Line.start with high := false } }.line.stuck = false ∧
    { onLine .recovering .quiet with line := { Line.start with stuck := true } }.line.stuck = true := by decide

/-! ## Witnesses: timers -/

theorem witness_silence : let s := (placed .mute).setPeer 2 fun e => { e with state := .live, lastHeard := some 0 }
    s.inRoster 2 = true ∧ (2 : Station) ≠ s.self ∧ (s.peer 2).state = .live ∧ (s.peer 2).lastHeard = some 0 := by decide +kernel

theorem witness_beacon_timer : { placed .active with members := ⟨(placed .active).members.peers, some 7⟩ }.members.beaconTimer = some 7 ∧
    (offering .beacon).tx? .beacon = some (waiting .beacon) := by decide

theorem witness_limits : (placed .listening).ctl.state = .listening ∧ (placed .joining).ctl.state = .joining ∧
    (placed .joining).resetLow = false ∧ (placed .joining).ctl.stopping = false := by decide

/-- A station with one want. -/
def asking (st : WantState) (asks : Nat) : State :=
  { placed .active with
    repl := { Replication.start with wants := [⟨⟨0, 1⟩, st, asks, some 9⟩] }
    array := { State.reset.array with running := some ⟨.erase 1, 0⟩ } }

theorem witness_asks : (asking .asked 6).repl.wants.find? (fun w => w.key == ⟨0, 1⟩) = some ⟨⟨0, 1⟩, .asked, 6, some 9⟩ ∧
    (asking .stalled 6).repl.wants.find? (fun w => w.key == ⟨0, 1⟩) = some ⟨⟨0, 1⟩, .stalled, 6, some 9⟩ ∧
    (asking .stalled 6).engine.queue.any (·.byWants) = false ∧ (asking .stalled 6).repl.fetch = none := by decide

theorem witness_asks_running : (asking .stalled 6).array.running ≠ none ∧
    ∀ v ∈ (asking .stalled 6).repl.wants, v.state = .asked ∨ v.key = ⟨0, 1⟩ := by decide

theorem witness_fetch : wanting.repl.fetch = some ⟨⟨0, 1⟩, 1, some 9, false⟩ ∧ wanting.tx? (.want 0 1 1) = none ∧
    wanting.engine.queue.any (·.byFetch) = false ∧
    { wanting with engine := { Engine.start with queue := [{ waiting (.want 0 2 1) with byFetch := true }] } }.tx? (.want 0 1 1) = none ∧
    { wanting with engine := { Engine.start with queue := [waiting (.want 0 1 1)] } }.tx? (.want 0 1 1) ≠ none ∧
    { wanting with repl := { Replication.start with fetch := some ⟨⟨0, 1⟩, 3, some 9, false⟩ } }.repl.fetch =
      some ⟨⟨0, 1⟩, 3, some 9, false⟩ := by decide

/-- A withdrawn station that fetches, while the WANT that its Want List has withdrawn from is in transmission. -/
def rejoined : State :=
  { placed .withdrawn with
    repl := { Replication.start with fetch := some ⟨⟨0, 1⟩, 1, some 9, false⟩ }
    engine := { Engine.start with
      queue := [{ waiting (.want 0 1 1) with cancelled := true }], sending := some ⟨.want 0 1 1, [], 0, none⟩ } }

/-- The fetch joins that WANT, which is cancelled no more, and so takes its deadline at its end (R70, R106). -/
theorem test_fetch_joins : (match exec .fetchDeadline rejoined with
    | .next t => t.engine.queue.map fun e => (e.target, e.byFetch, e.cancelled)
    | _ => []) = [(.want 0 1 1, true, false)] := by decide +kernel

/-! ## Witnesses: the array -/

/-- A station that holds a page, with an operation running. -/
def busy (s : State) (op : ArrayOp) : State := { s with array := { s.array with running := some ⟨op, 0⟩ } }

theorem witness_page_read : let s := busy (holding .mute) (.read .host (.page ⟨0, 1⟩) ⟨1, 30⟩)
    s.array.running = some ⟨.read .host (.page ⟨0, 1⟩) ⟨1, 30⟩, 0⟩ ∧
      s.entry? ⟨0, 1⟩ = some ⟨⟨0, 1⟩, .designated, 1, .live ⟨1, 30⟩ 5⟩ ∧
      s.array.flash.slots.read (⟨1, 30⟩ : Loc).number = some (.written header.encode [0xAB]) ∧
      decodeHeader header.encode = .valid header ∧ header.length = 1 ∧ s.port.readRequested = false := by decide +kernel

/-- A warm start leaves the staging buffer held by the read that is running; its end frees it (R109, R151). -/
theorem test_stopping_staging :
    let s := { busy (holding .active) (.read .staging (.page ⟨0, 1⟩) ⟨1, 30⟩) with
      engine := { Engine.start with staging := some ⟨⟨0, 1⟩, .reading, [], false⟩ } }.warmStart
    (s.engine.staging, match exec (.pageReadEnd 0) s with
      | .next t => t.engine.staging.isSome
      | _ => true) = (some ⟨⟨0, 1⟩, .reading, [], true⟩, false) := by decide +kernel

theorem witness_stopping_read : let s := (busy (holding .active) (.read .staging (.page ⟨0, 1⟩) ⟨1, 30⟩)).warmStart
    s.resetLow = false ∧ s.ctl.stopping = true ∧
      s.array.running = some ⟨.read .staging (.page ⟨0, 1⟩) ⟨1, 30⟩, 0⟩ := by decide +kernel

theorem witness_staging_read :
    let s := { busy (holding .active) (.read .staging (.page ⟨0, 1⟩) ⟨1, 30⟩) with
      engine := { Engine.start with
        queue := [{ waiting (.repair ⟨0, 1⟩) with staged := false }], staging := some ⟨⟨0, 1⟩, .reading, [], false⟩ } }
    s.engine.staging = some ⟨⟨0, 1⟩, .reading, [], false⟩ ∧ s.inTransmission (.repair ⟨0, 1⟩) = false := by decide

theorem witness_relocation_read : let s := busy (holding .active) (.read .reclaim (.page ⟨0, 1⟩) ⟨1, 30⟩)
    s.array.running = some ⟨.read .reclaim (.page ⟨0, 1⟩) ⟨1, 30⟩, 0⟩ ∧ s.array.exhausted = false ∧
      s.entry? ⟨0, 1⟩ = some ⟨⟨0, 1⟩, .designated, 1, .live ⟨1, 30⟩ 5⟩ ∧ header.origin = 0 ∧ header.seq = 1 := by
  decide +kernel

theorem witness_mark_read :
    let h : PageHeader := ⟨0x5A, 1, 4, .mark, 3, 5⟩
    let s := { running (.read .failure .mark ⟨1, 0⟩) ⟨[(32, .written h.encode [0, 0, 7])], []⟩ with
      dir := { (placed .active).dir with mark := some ⟨⟨1, 0⟩, 5⟩ } }
    s.array.running = some ⟨.read .failure .mark ⟨1, 0⟩, 0⟩ ∧ s.dir.mark = some ⟨⟨1, 0⟩, 5⟩ ∧
      s.array.flash.slots.read (⟨1, 0⟩ : Loc).number = some (.written h.encode [0, 0, 7]) ∧
      decodeHeader h.encode = .valid h ∧ s.array.exhausted = false := by decide +kernel

/-- The page of origin 0 as its landing program writes it. -/
def image : PageImage := ⟨0x5A, 0, 1, .designated, [0xAB]⟩

theorem witness_landing : let s := busy (landing .active) (.program .landing ⟨.landing ⟨0, 1⟩ 0, image⟩ ⟨1, 31⟩ 5)
    s.array.running = some ⟨.program .landing ⟨.landing ⟨0, 1⟩ 0, image⟩ ⟨1, 31⟩ 5, 0⟩ ∧
      s.entry? ⟨0, 1⟩ = some ⟨⟨0, 1⟩, .designated, 1, .landing (.landing 0)⟩ ∧ 5 < stampMax ∧ 1 ∉ s.array.freeList := by
  decide +kernel

theorem witness_landing_again :
    let s := busy (landing .active) (.program .failure ⟨.landing ⟨0, 1⟩ 0, image⟩ ⟨1, 31⟩ 5)
    let t := { s with array := { s.array with failure := ⟨[3], some (⟨.landing ⟨0, 1⟩ 0, image⟩, .landing), none⟩ } }
    t.array.running = some ⟨.program .failure ⟨.landing ⟨0, 1⟩ 0, image⟩ ⟨1, 31⟩ 5, 0⟩ ∧ t.array.failure.page ≠ none ∧
      t.entry? ⟨0, 1⟩ = some ⟨⟨0, 1⟩, .designated, 1, .landing (.landing 0)⟩ := by decide +kernel

/-- A station whose publish is being programmed. -/
def programming : State :=
  { placed .active with
    dir := { (placed .active).dir with entries := [⟨⟨1, 1⟩, .self, 1, .landing .publish⟩] }
    repl := { Replication.start with publish := ⟨.programming, 1, 0, 0, none, none, false, some [0xAB]⟩ }
    retire := ⟨some 2, false⟩ }

theorem witness_publish_program :
    let s := busy programming (.program .publish ⟨.publish ⟨1, 1⟩, ⟨0x5A, 1, 1, .self, [0xAB]⟩⟩ ⟨1, 31⟩ 5)
    s.entry? ⟨s.self, s.repl.publish.seq⟩ = some ⟨⟨1, 1⟩, .self, 1, .landing .publish⟩ ∧
      s.repl.publish.phase = .programming ∧ s.array.failure.page = none ∧ s.inRoster s.self = true ∧ s.cfg.factor ≠ 1 ∧
      s.retire.marking = some 2 := by decide +kernel

theorem witness_publish_program_mute :
    let s := { programming with ctl := ⟨.mute, 0, false, some cfg⟩ }
    s.entry? ⟨s.self, s.repl.publish.seq⟩ = some ⟨⟨1, 1⟩, .self, 1, .landing .publish⟩ ∧ s.ctl.state = .mute ∧
      s.repl.publish.phase = .programming ∧ s.array.failure.page = none ∧ s.inRoster s.self = true := by decide +kernel

theorem witness_mark_copy :
    let s := { busy (holding .active) (.program .reclaim ⟨.markCopy ⟨1, 3⟩, image⟩ ⟨2, 0⟩ 6) with
      dir := { (holding .active).dir with mark := some ⟨⟨1, 3⟩, 4⟩ } }
    s.array.running = some ⟨.program .reclaim ⟨.markCopy ⟨1, 3⟩, image⟩ ⟨2, 0⟩ 6, 0⟩ ∧ s.dir.mark = some ⟨⟨1, 3⟩, 4⟩ ∧
      (⟨.freshMark ⟨1, 3⟩, image⟩ : ProgItem).owner = .freshMark ⟨1, 3⟩ ∧ (1 : Block) ≠ 2 := by decide +kernel

/-- A station copying its page for reclaim, or for failure handling with a page pending. -/
def copying (src : Source) (pending : Option (ProgItem × Source)) : State :=
  let s := busy (holding .active) (.program src ⟨.copy ⟨0, 1⟩ ⟨1, 30⟩, image⟩ ⟨2, 0⟩ 6)
  { s with array := { s.array with failure := ⟨[3], pending, none⟩ } }

theorem witness_copy : (copying .reclaim none).entry? ⟨0, 1⟩ = some ⟨⟨0, 1⟩, .designated, 1, .live ⟨1, 30⟩ 5⟩ ∧
    (copying .reclaim none).inRoster (copying .reclaim none).self = true ∧ 6 < stampMax ∧
    (copying .failure none).array.failure.page = none ∧ (2 : Block) ∉ (copying .failure none).array.freeList ∧
    (copying .failure (some (⟨.copy ⟨0, 1⟩ ⟨1, 30⟩, image⟩, .reclaim))).array.failure.page =
      some (⟨.copy ⟨0, 1⟩ ⟨1, 30⟩, image⟩, .reclaim) ∧ (⟨1, 30⟩ : Loc).block ≠ (⟨2, 0⟩ : Loc).block := by decide +kernel

theorem witness_tag : let s := busy (placed .joining) (.tag .failure 511 .program 5)
    s.array.running = some ⟨.tag .failure 511 .program 5, 0⟩ ∧ s.array.exhausted = false ∧ s.array.badTable.length < 32 ∧
      32 ≤ { s with array := { s.array with badTable := List.replicate 32 1 } }.array.badTable.length := by decide +kernel

theorem witness_erase : let s := (busy (placed .active) (.erase 7)).setBlock 511 fun r => { r with state := .opened }
    s.array.running = some ⟨.erase 7, 0⟩ ∧ s.openBlock = some 511 ∧ (511 : Block) ≠ 7 ∧
      (busy (placed .active) (.erase 7)).openBlock = none ∧
      (busy (placed .active) (.erase 7)).array.freeList ++ [7] = 7 :: [] := by decide +kernel

/-- A station with an OPEN block and three free ones. -/
def storing : State :=
  { holding .active with array := { ((holding .active).setBlock 1 fun _ => ⟨.opened, 31, 1, false, false⟩).array with
      freeList := [2, 3, 4] } }

theorem witness_grant_reads : storing.array.running = none ∧ storing.failureStep = none ∧ 2 < storing.freeCount ∧
    (storing.org 0).floor ≤ 1 ∧ storing.entry? ⟨0, 1⟩ = some ⟨⟨0, 1⟩, .designated, 1, .live ⟨1, 30⟩ 5⟩ ∧
    storing.stagingRead = none ∧ storing.hostRead = none ∧ storing.openBlock = some 1 ∧
    storing.array.exhausted = false := by decide +kernel

theorem witness_grant_programs :
    let s := { storing with
      repl := { storing.repl with landing := { Landing.start with
        buffers := upd Landing.start.buffers 0 fun _ => some ⟨⟨2, 1⟩, .designated, [0xAB]⟩, queue := [0], requested := true } } }
    let t := { storing with retire := ⟨some 2, true⟩ }
    s.repl.landing.requested = true ∧ s.repl.publish.requested = false ∧ s.stagingRead = none ∧ s.hostRead = none ∧
      s.failureStep = none ∧ t.repl.landing.requested = false ∧ t.retire = ⟨some 2, true⟩ ∧ t.stagingRead = none ∧
      t.failureStep = none ∧ 3 ≤ t.freeCount := by decide +kernel

/-- A station with work for failure handling and reclaim. -/
def repairing (failure : Failure) (reclaim : Reclaim) (free : List Block) : State :=
  { storing with array := { storing.array with failure := failure, reclaim := reclaim, freeList := free } }

theorem witness_grant_failure :
    let s := repairing ⟨[1], none, none⟩ ⟨none, .search, 0, none, false⟩ [2]
    let t := repairing ⟨[3], none, none⟩ ⟨none, .search, 0, none, false⟩ [2]
    (repairing ⟨[], some (⟨.copy ⟨0, 1⟩ ⟨1, 30⟩, image⟩, .reclaim), none⟩ ⟨none, .search, 0, none, false⟩ [2]).openBlock = some 1 ∧
      (s.block 1).live ≠ 0 ∧ s.firstNamed 1 0 = some (30, .page ⟨0, 1⟩) ∧ (t.block 3).live = 0 := by decide +kernel

theorem witness_grant_reclaim :
    let s (step : ReclaimStep) (buffer : Option ProgItem) (free : List Block) :=
      repairing ⟨[], none, none⟩ ⟨some 1, step, 0, buffer, false⟩ free
    (s .erase none [2, 3]).freeCount ≤ 2 ∧ (s (.retire .weak) none [2]).array.reclaim.step = .retire .weak ∧
      (s .relocate none [2]).firstNamed 1 0 = some (30, .page ⟨0, 1⟩) ∧
      (s .relocate (some ⟨.copy ⟨0, 1⟩ ⟨1, 30⟩, image⟩) [2]).openBlock = some 1 ∧
      (s .erase none [2, 3, 4]).reclaimStep = some (.erase 1) ∧ 3 ≤ (s .erase none [2, 3, 4]).freeCount ∧
      (s .erase none [2]).ctl.state = .active ∧ (s .erase none [2]).array.exhausted = false := by decide +kernel

theorem witness_grant_mark :
    let s := { repairing ⟨[], none, none⟩ ⟨none, .search, 0, none, true⟩ [2] with retire := ⟨some 2, false⟩ }
    s.array.failure.page = none ∧ s.array.failure.failing = [] ∧ s.freeCount ≤ 2 ∧ s.array.reclaim.mark = true ∧
      s.retire.marking = some 2 ∧ s.openBlock = some 1 ∧ s.array.running = none := by decide +kernel

theorem witness_grant_reserve : let s := { storing with array := { storing.array with freeList := [2] } }
    s.freeCount ≤ 1 ∧ s.reclaimStep = none ∧ s.failureStep = none := by decide +kernel

end Sys2Proof.Tests
end

/-! PROOFS. The frame check of R98 and the frames of chapter 5: what the check register does with one bit and with a run
of bits, what the assembly buffer holds of a frame received whole, and how each body reads back. -/

namespace Sys2Proof.FrameProofs

open Sys2Proof.Machine

/-! ## Bits of numbers and bytes -/

theorem length_bitsOf (w n : Nat) : (bitsOf w n).length = w := by
  induction w with
  | zero => rfl
  | succ w ih => simp [bitsOf, ih]

/-- The bits of a number depend on no higher bit. -/
theorem bitsOf_mod_two_pow {w v : Nat} (h : w ≤ v) (n : Nat) : bitsOf w (n % 2 ^ v) = bitsOf w n := by
  induction w with
  | zero => rfl
  | succ w ih =>
    have : w < v := h
    simp [bitsOf, ih (by omega), Nat.testBit_mod_two_pow, this]

/-- Bits read most significant first after a number `a` give `a` shifted and the low bits of their number. -/
theorem foldl_shiftIn_bitsOf (w n a : Nat) : (bitsOf w n).foldl shiftIn a = a * 2 ^ w + n % 2 ^ w := by
  induction w generalizing a with
  | zero => simp [bitsOf, Nat.mod_one]
  | succ w ih =>
    rw [bitsOf, List.foldl_cons, ih, shiftIn, Nat.toNat_testBit, Nat.mod_pow_succ, Nat.pow_succ, Nat.add_mul,
      Nat.mul_comm 2 a, Nat.mul_assoc, Nat.mul_comm 2, Nat.mul_comm (n / 2 ^ w % 2), Nat.add_assoc,
      Nat.add_comm (n % 2 ^ w)]

/-- The last bit of a number alone. -/
theorem bitsOf_succ_append (w n : Nat) : bitsOf (w + 1) n = bitsOf w (n / 2) ++ [n.testBit 0] := by
  induction w with
  | zero => rfl
  | succ w ih => rw [bitsOf, ih, bitsOf, Nat.testBit_succ, List.cons_append]

theorem bitsOfBytes_cons (b : Byte) (bs : List Byte) : bitsOfBytes (b :: bs) = bitsOf 8 b.toNat ++ bitsOfBytes bs := rfl

@[simp] theorem length_bitsOfBytes (bs : List Byte) : (bitsOfBytes bs).length = 8 * bs.length := by
  induction bs with
  | nil => rfl
  | cons b bs ih =>
    simp only [bitsOfBytes_cons, List.length_append, length_bitsOf, ih, List.length_cons]
    omega

/-! ## The check register (R98) -/

/-- The division step of R98: the feedback, the difference of the register's top bit and the covered bit, chooses
whether the generator is combined with the shifted register. -/
theorem getLsbD_crcStep (r : BitVec 16) (b : Bool) (i : Nat) (hi : i < 16) :
    (crcStep r b).getLsbD i =
      ((decide (0 < i) && r.getLsbD (i - 1)) ^^ ((r.msb != b) && (0x1021#16).getLsbD i)) := by
  unfold crcStep
  cases r.msb != b <;> simp [hi] <;> grind

/-- The generator has a constant term, so bit 0 of the new register is the feedback. -/
theorem crcStep_getLsbD_zero (r : BitVec 16) (b : Bool) : (crcStep r b).getLsbD 0 = (r.msb != b) := by
  rw [getLsbD_crcStep r b 0 (by omega)]
  simp

/-- Two steps whose results agree in bit 0 and in bit `i + 1` came from registers that agree in bit `i`. -/
theorem getLsbD_eq_of_crcStep {r q : BitVec 16} {b c : Bool} {i : Nat} (hi : i + 1 < 16)
    (h0 : (crcStep r b).getLsbD 0 = (crcStep q c).getLsbD 0)
    (h : (crcStep r b).getLsbD (i + 1) = (crcStep q c).getLsbD (i + 1)) : r.getLsbD i = q.getLsbD i := by
  rw [crcStep_getLsbD_zero, crcStep_getLsbD_zero] at h0
  rw [getLsbD_crcStep r b _ hi, getLsbD_crcStep q c _ hi, h0] at h
  simpa using h

/-- A step with a given bit loses nothing of the register. -/
theorem crcStep_injective (b : Bool) : Function.Injective (crcStep · b) := by
  intro r q h
  have same (i : Nat) : (crcStep r b).getLsbD i = (crcStep q b).getLsbD i := congrArg (BitVec.getLsbD · i) h
  have top : r.msb = q.msb := by
    have := same 0
    rwa [crcStep_getLsbD_zero, crcStep_getLsbD_zero, Bool.bne_left_inj] at this
  apply BitVec.eq_of_getLsbD_eq
  intro i hi
  obtain rfl | below : i = 15 ∨ i + 1 < 16 := by omega
  · simpa [BitVec.msb_eq_getLsbD_last] using top
  · exact getLsbD_eq_of_crcStep below (same 0) (same _)

/-- The register after equal bits tells the register before them. -/
theorem foldl_crcStep_injective (bits : List Bool) : Function.Injective (bits.foldl crcStep ·) := by
  induction bits with
  | nil => exact fun _ _ h => h
  | cons b bits ih => exact fun r q h => crcStep_injective b (ih h)

/-- Registers that come to agree after `n` bits each, of whatever values, agreed in their lowest `16 - n` bits
before. -/
theorem getLsbD_eq_of_foldl_crcStep {xs ys : List Bool} (len : xs.length = ys.length) {r q : BitVec 16}
    (h : xs.foldl crcStep r = ys.foldl crcStep q) {i : Nat} (hi : i + xs.length < 16) :
    r.getLsbD i = q.getLsbD i := by
  induction xs generalizing ys r q i with
  | nil =>
    obtain rfl := List.length_eq_zero_iff.mp len.symm
    exact congrArg (BitVec.getLsbD · i) h
  | cons b xs ih =>
    obtain _ | ⟨c, ys⟩ := ys
    · simp at len
    · simp only [List.length_cons, Nat.add_right_cancel_iff] at len hi
      exact getLsbD_eq_of_crcStep (by omega) (ih len h (by omega)) (ih len h (by omega))

/-- From one register, two different runs of 16 or fewer bits never lead to the same register. -/
theorem eq_of_foldl_crcStep_eq {xs ys : List Bool} (len : xs.length = ys.length) (short : xs.length ≤ 16)
    {r : BitVec 16} (h : xs.foldl crcStep r = ys.foldl crcStep r) : xs = ys := by
  induction xs generalizing ys r with
  | nil => exact (List.length_eq_zero_iff.mp len.symm).symm
  | cons b xs ih =>
    obtain _ | ⟨c, ys⟩ := ys
    · simp at len
    · simp only [List.length_cons, Nat.add_right_cancel_iff] at len short
      have head : b = c := by
        have := getLsbD_eq_of_foldl_crcStep (i := 0) len h (by omega)
        rwa [crcStep_getLsbD_zero, crcStep_getLsbD_zero, Bool.bne_right_inj] at this
      subst head
      rw [ih len (by omega) h]

/-- A register whose top `w` bits are the number `n` is emptied by the bits of `n`. -/
theorem foldl_crcStep_bitsOf (w n : Nat) (hw : w ≤ 16) :
    (bitsOf w n).foldl crcStep (BitVec.ofNat 16 (n * 2 ^ (16 - w))) = 0 := by
  induction w with
  | zero =>
    apply BitVec.eq_of_toNat_eq
    simp [bitsOf]
  | succ w ih =>
    have top : (BitVec.ofNat 16 (n * 2 ^ (16 - (w + 1)))).msb = n.testBit w := by
      rw [BitVec.msb_eq_getLsbD_last, BitVec.getLsbD_ofNat, Nat.testBit_mul_two_pow]
      have : 16 - 1 - (16 - (w + 1)) = w := by omega
      rw [this]
      simp
    have shifted : BitVec.ofNat 16 (n * 2 ^ (16 - (w + 1))) <<< 1 = BitVec.ofNat 16 (n * 2 ^ (16 - w)) := by
      have : 16 - w = 16 - (w + 1) + 1 := by omega
      rw [this, Nat.pow_succ, ← Nat.mul_assoc]
      apply BitVec.eq_of_toNat_eq
      simp [Nat.shiftLeft_eq]
    rw [bitsOf, List.foldl_cons, crcStep, top, shifted]
    simpa using ih (by omega)

/-- Covered bits and the check that follows them leave the register at 0. -/
theorem foldl_crcStep_codeword (covered : List Bool) :
    (codeword covered (crcOf covered)).foldl crcStep 0xFFFF#16 = 0 := by
  rw [codeword, List.foldl_append]
  simpa [crcOf] using foldl_crcStep_bitsOf 16 (crcOf covered).toNat (Nat.le_refl 16)

/-! ## Parity -/

/-- Whether the number of ONE bits is odd. -/
def parity (bits : List Bool) : Bool := bits.foldr xor false

@[simp] theorem parity_nil : parity [] = false := rfl

@[simp] theorem parity_cons (x : Bool) (xs : List Bool) : parity (x :: xs) = (x ^^ parity xs) := rfl

@[simp] theorem parity_append (xs ys : List Bool) : parity (xs ++ ys) = (parity xs ^^ parity ys) := by
  induction xs with
  | nil => simp
  | cons x xs ih => simp [ih]

theorem parity_bitsOf_xor (w n m : Nat) :
    parity (bitsOf w (n ^^^ m)) = (parity (bitsOf w n) ^^ parity (bitsOf w m)) := by
  induction w with
  | zero => rfl
  | succ w ih =>
    simp only [bitsOf, parity_cons, Nat.testBit_xor, ih, Bool.xor_assoc, Bool.xor_left_comm]

theorem parity_bitsOf_double (w n : Nat) : parity (bitsOf (w + 1) (2 * n)) = parity (bitsOf w n) := by
  induction w with
  | zero => simp [bitsOf]
  | succ w ih =>
    rw [bitsOf, parity_cons, ih, Nat.testBit_succ, Nat.mul_div_cancel_left _ Nat.two_pos]
    rfl

/-- A shift takes the top bit out of the register's parity. -/
theorem parity_shiftLeft (r : BitVec 16) :
    parity (bitsOf 16 (r <<< 1).toNat) = (parity (bitsOf 16 r.toNat) ^^ r.msb) := by
  have split : bitsOf 16 r.toNat = r.msb :: bitsOf 15 r.toNat := by
    rw [bitsOf, BitVec.msb_eq_getLsbD_last]
    rfl
  rw [BitVec.toNat_shiftLeft, bitsOf_mod_two_pow (Nat.le_refl 16), Nat.shiftLeft_eq, Nat.mul_comm, split, parity_cons,
    parity_bitsOf_double 15, Bool.xor_comm]
  simp

/-- The generator has three terms below x¹⁶: each step changes the register's parity by the covered bit alone. -/
theorem parity_crcStep (r : BitVec 16) (b : Bool) :
    parity (bitsOf 16 (crcStep r b).toNat) = (parity (bitsOf 16 r.toNat) ^^ b) := by
  have generator : parity (bitsOf 16 (0x1021#16).toNat) = true := by decide
  unfold crcStep
  split
  next differ =>
    rw [BitVec.toNat_xor, parity_bitsOf_xor, parity_shiftLeft, generator]
    revert differ
    cases r.msb <;> cases b <;> simp
  next same =>
    rw [parity_shiftLeft]
    simp_all

theorem parity_foldl_crcStep (r : BitVec 16) (bits : List Bool) :
    parity (bitsOf 16 (bits.foldl crcStep r).toNat) = (parity (bitsOf 16 r.toNat) ^^ parity bits) := by
  induction bits generalizing r with
  | nil => simp
  | cons b bits ih => simp [ih, parity_crcStep]

/-- Covered bits and the check that follows them hold an even number of ONEs. -/
theorem parity_codeword (covered : List Bool) : parity (codeword covered (crcOf covered)) = false := by
  have start : parity (bitsOf 16 (0xFFFF#16).toNat) = false := by decide
  rw [codeword, parity_append, crcOf, parity_foldl_crcStep, start]
  simp

/-- The number of places where two words differ is odd exactly if their parities differ. -/
theorem countP_ne_zip_mod_two {xs ys : List Bool} (len : xs.length = ys.length) :
    ((List.zip xs ys).countP fun e => e.1 != e.2) % 2 = (parity xs ^^ parity ys).toNat := by
  induction xs generalizing ys with
  | nil =>
    obtain rfl := List.length_eq_zero_iff.mp len.symm
    rfl
  | cons x xs ih =>
    obtain _ | ⟨y, ys⟩ := ys
    · simp at len
    · have rest := ih (Nat.succ.inj len)
      rw [List.zip_cons_cons, List.countP_cons, Nat.add_mod, rest, parity_cons, parity_cons]
      cases x <;> cases y <;> cases parity xs <;> cases parity ys <;> rfl

/-! ## Errors the check catches -/

/-- Two words that differ within a run of 16 or fewer bits, if at all, and leave the same register are equal there. -/
theorem run_eq_of_foldl_crcStep_eq {before run run' after : List Bool} (len : run.length = run'.length)
    (short : run.length ≤ 16)
    (h : (before ++ run ++ after).foldl crcStep 0xFFFF#16 = (before ++ run' ++ after).foldl crcStep 0xFFFF#16) :
    run = run' := by
  simp only [List.foldl_append] at h
  exact eq_of_foldl_crcStep_eq len short (foldl_crcStep_injective after h)

/-- Settles O14: a burst because the register tells runs of 16 or fewer bits apart, an odd number of errors by the even
parity of every word that meets its check. -/
theorem checkCatchesBurstsAndOddErrors : Obligations.CheckCatchesBurstsAndOddErrors := by
  rintro sent got check len errors rfl
  obtain ⟨before, run, run', after, hsent, hgot, runLen, short, differ⟩ | odd := errors
  · apply differ
    apply run_eq_of_foldl_crcStep_eq (before := before) (after := after) runLen short
    rw [← hsent, ← hgot, foldl_crcStep_codeword, foldl_crcStep_codeword]
  · rw [countP_ne_zip_mod_two (by simp [codeword, length_bitsOf, len]), parity_codeword, parity_codeword] at odd
    cases odd

/-! ## The header (R96) -/

/-- The 28 header bits as a number. -/
def headerNumber (kind : FrameKind) (sender : Station) (tag : Byte) (length : Nat) : Nat :=
  (((kind.cls * 16 + sender.val) * 16 + kind.value) * 256 + tag.toNat) * 1024 + length

theorem cls_lt (kind : FrameKind) : kind.cls < 4 := by cases kind <;> decide

theorem value_lt (kind : FrameKind) : kind.value < 16 := by cases kind <;> decide

@[simp] theorem frameKind?_value (kind : FrameKind) : frameKind? kind.value = some kind := by cases kind <;> rfl

@[simp] theorem length_headerBits (kind : FrameKind) (sender : Station) (tag : Byte) (length : Nat) :
    (headerBits kind sender tag length).length = 28 := by
  simp [headerBits, length_bitsOf]

theorem foldl_shiftIn_headerBits (kind : FrameKind) (sender : Station) (tag : Byte) {length : Nat}
    (hlen : length < 1024) :
    (headerBits kind sender tag length).foldl shiftIn 0 = headerNumber kind sender tag length := by
  have := cls_lt kind
  have := value_lt kind
  have := sender.isLt
  have := tag.isLt
  simp only [headerBits, List.foldl_append, foldl_shiftIn_bitsOf, headerNumber]
  omega

section HeaderFields

variable (kind : FrameKind) (sender : Station) (tag : Byte) {length : Nat} (hlen : length < 1024)
include hlen

theorem headerLength_headerNumber : headerLength (headerNumber kind sender tag length) = length := by
  unfold headerLength headerNumber
  omega

theorem headerTag_headerNumber : headerTag (headerNumber kind sender tag length) = tag := by
  have := tag.isLt
  apply BitVec.eq_of_toNat_eq
  simp only [headerTag, byte, BitVec.toNat_ofNat, headerNumber]
  omega

theorem headerKind_headerNumber : headerKind (headerNumber kind sender tag length) = kind.value := by
  have := value_lt kind
  have := tag.isLt
  unfold headerKind headerNumber
  omega

theorem headerSender_headerNumber : headerSender (headerNumber kind sender tag length) = sender := by
  have := value_lt kind
  have := sender.isLt
  have := tag.isLt
  apply Fin.ext
  simp only [headerSender, Fin.ofNat, headerNumber]
  omega

theorem headerClass_headerNumber : headerClass (headerNumber kind sender tag length) = kind.cls := by
  have := cls_lt kind
  have := value_lt kind
  have := sender.isLt
  have := tag.isLt
  unfold headerClass headerNumber
  omega

end HeaderFields

/-! ## The assembly buffer (R99) -/

theorem pushAll_append (a : Assembly) (n : Nat) (xs ys : List Bool) :
    a.pushAll n (xs ++ ys) = (a.pushAll n xs).pushAll (n + xs.length) ys := by
  induction xs generalizing a n with
  | nil => rfl
  | cons x xs ih =>
    simp only [List.cons_append, Assembly.pushAll, ih, List.length_cons]
    congr 1
    omega

section Push

variable {h o c n : Nat} {stored : List Byte} {r : BitVec 16}

theorem push_header (hn : n < 28) (b : Bool) :
    Assembly.push ⟨h, o, stored, r, c⟩ n b = ⟨shiftIn h b, o, stored, crcStep r b, c⟩ := by
  simp [Assembly.push, hn]

/-- A body bit that completes no byte. -/
theorem push_octet (hn : 28 ≤ n) (inBody : n < 28 + 8 * headerLength h) (inside : (n - 28) % 8 ≠ 7) (b : Bool) :
    Assembly.push ⟨h, o, stored, r, c⟩ n b = ⟨h, shiftIn o b, stored, crcStep r b, c⟩ := by
  simp [Assembly.push, Nat.not_lt.mpr hn, inBody, inside]

/-- The body bit that completes a byte, with room for it. -/
theorem push_octet_last (hn : 28 ≤ n) (inBody : n < 28 + 8 * headerLength h) (last : (n - 28) % 8 = 7)
    (room : stored.length < 261) (b : Bool) :
    Assembly.push ⟨h, o, stored, r, c⟩ n b = ⟨h, 0, stored ++ [byte (shiftIn o b)], crcStep r b, c⟩ := by
  simp [Assembly.push, Nat.not_lt.mpr hn, inBody, last, room]

theorem push_check (hn : 28 + 8 * headerLength h ≤ n) (inCheck : n < expectedBits (headerLength h)) (b : Bool) :
    Assembly.push ⟨h, o, stored, r, c⟩ n b = ⟨h, o, stored, r, shiftIn c b⟩ := by
  have : 28 ≤ n := by omega
  simp [Assembly.push, Nat.not_lt.mpr this, Nat.not_lt.mpr hn, inCheck]

theorem pushAll_header (bits : List Bool) (hn : n + bits.length ≤ 28) :
    Assembly.pushAll ⟨h, o, stored, r, c⟩ n bits =
      ⟨bits.foldl shiftIn h, o, stored, bits.foldl crcStep r, c⟩ := by
  induction bits generalizing h r n with
  | nil => rfl
  | cons b bits ih =>
    rw [List.length_cons] at hn
    rw [Assembly.pushAll, push_header (by omega), ih (by omega)]
    rfl

theorem pushAll_octet (bits : List Bool) (hn : 28 ≤ n) (inBody : n + bits.length ≤ 28 + 8 * headerLength h)
    (inside : (n - 28) % 8 + bits.length ≤ 7) :
    Assembly.pushAll ⟨h, o, stored, r, c⟩ n bits =
      ⟨h, bits.foldl shiftIn o, stored, bits.foldl crcStep r, c⟩ := by
  induction bits generalizing o r n with
  | nil => rfl
  | cons b bits ih =>
    rw [List.length_cons] at inBody inside
    rw [Assembly.pushAll, push_octet hn (by omega) (by omega), ih (by omega) (by omega) (by omega)]
    rfl

theorem pushAll_check (bits : List Bool) (hn : 28 + 8 * headerLength h ≤ n)
    (inCheck : n + bits.length ≤ expectedBits (headerLength h)) :
    Assembly.pushAll ⟨h, o, stored, r, c⟩ n bits = ⟨h, o, stored, r, bits.foldl shiftIn c⟩ := by
  induction bits generalizing c n with
  | nil => rfl
  | cons b bits ih =>
    rw [List.length_cons] at inCheck
    rw [Assembly.pushAll, push_check hn (by omega), ih (by omega) (by omega)]
    rfl

/-- A whole byte, taken at a byte boundary of the body. -/
theorem pushAll_byte (b : Byte) (hn : 28 ≤ n) (inBody : n + 8 ≤ 28 + 8 * headerLength h)
    (boundary : (n - 28) % 8 = 0) (room : stored.length < 261) :
    Assembly.pushAll ⟨h, 0, stored, r, c⟩ n (bitsOf 8 b.toNat) =
      ⟨h, 0, stored ++ [b], (bitsOf 8 b.toNat).foldl crcStep r, c⟩ := by
  have octet : byte (shiftIn ((bitsOf 7 (b.toNat / 2)).foldl shiftIn 0) (b.toNat.testBit 0)) = b := by
    have := foldl_shiftIn_bitsOf 8 b.toNat 0
    rw [bitsOf_succ_append, List.foldl_append, List.foldl_cons, List.foldl_nil] at this
    rw [this, Nat.zero_mul, Nat.zero_add, Nat.mod_eq_of_lt b.isLt]
    simp [byte]
  have seven := length_bitsOf 7 (b.toNat / 2)
  rw [bitsOf_succ_append, pushAll_append, pushAll_octet _ hn (by omega) (by omega), Assembly.pushAll,
    push_octet_last (by omega) (by omega) (by omega) room, octet, List.foldl_append]
  rfl

theorem pushAll_body (bs : List Byte) (hn : 28 ≤ n) (inBody : n + 8 * bs.length ≤ 28 + 8 * headerLength h)
    (boundary : (n - 28) % 8 = 0) (room : stored.length + bs.length ≤ 261) :
    Assembly.pushAll ⟨h, 0, stored, r, c⟩ n (bitsOfBytes bs) =
      ⟨h, 0, stored ++ bs, (bitsOfBytes bs).foldl crcStep r, c⟩ := by
  induction bs generalizing stored r n with
  | nil => simp [bitsOfBytes, Assembly.pushAll]
  | cons b bs ih =>
    rw [List.length_cons] at inBody room
    rw [bitsOfBytes_cons, pushAll_append, pushAll_byte b hn (by omega) boundary (by omega), length_bitsOf,
      ih (by omega) (by omega) (by omega) (by rw [List.length_append, List.length_singleton]; omega), List.foldl_append,
      List.append_assoc, List.singleton_append]

end Push

/-- A frame received whole: its header, its body, and the check computed and received alike. -/
theorem pushAll_frameBits (kind : FrameKind) (sender : Station) (tag : Byte) (body : List Byte)
    (short : body.length ≤ 261) :
    let check := crcOf (headerBits kind sender tag body.length ++ bitsOfBytes body)
    Assembly.empty.pushAll 0 (frameBits kind sender tag body) =
      ⟨headerNumber kind sender tag body.length, 0, body, check, check.toNat⟩ := by
  intro check
  have declared := headerLength_headerNumber kind sender tag (length := body.length) (by omega)
  have covered : (headerBits kind sender tag body.length ++ bitsOfBytes body).length = 28 + 8 * body.length := by
    rw [List.length_append, length_headerBits, length_bitsOfBytes]
  have received : (bitsOf 16 check.toNat).foldl shiftIn 0 = check.toNat := by
    rw [foldl_shiftIn_bitsOf, Nat.mod_eq_of_lt check.isLt, Nat.zero_mul, Nat.zero_add]
  have register :
      (bitsOfBytes body).foldl crcStep ((headerBits kind sender tag body.length).foldl crcStep 0xFFFF) = check :=
    List.foldl_append.symm
  rw [frameBits, Assembly.empty, pushAll_append, pushAll_append,
    pushAll_header (headerBits kind sender tag body.length) (by simp),
    foldl_shiftIn_headerBits kind sender tag (by omega),
    pushAll_body body (by simp) (by simp [declared]) (by simp) (by simpa using short),
    pushAll_check _ (by omega) (by rw [expectedBits, length_bitsOf]; omega), register, received, List.nil_append]

/-! ## The checks of R100 -/

/-- A frame of the own group from a roster member, received whole, passes the checks up to that of its body. -/
theorem checkFrame_frameBits {kind : FrameKind} {sender : Station} {tag : Byte} {roster : BitVec 16} {body : List Byte}
    {m : Message} (member : inMask roster sender = true) (allowed : lengthAllowed kind body.length = true)
    (short : body.length ≤ 261) (hm : bodyMessage kind sender roster body = some m) :
    checkFrame tag roster (expectedBits body.length) (Assembly.empty.pushAll 0 (frameBits kind sender tag body)) =
      .valid m := by
  have hlen : body.length < 1024 := by omega
  rw [pushAll_frameBits kind sender tag body short]
  simp [checkFrame, headerLength_headerNumber, headerTag_headerNumber, headerSender_headerNumber,
    headerKind_headerNumber, headerClass_headerNumber, hlen, member, allowed, hm]

/-! ## Bodies (R97) -/

@[simp] theorem byteAt_cons_zero (b : Byte) (bs : List Byte) : byteAt (b :: bs) 0 = b.toNat := rfl

@[simp] theorem byteAt_cons_succ (b : Byte) (bs : List Byte) (i : Nat) : byteAt (b :: bs) (i + 1) = byteAt bs i := rfl

@[simp] theorem word2At_cons_succ (b : Byte) (bs : List Byte) (i : Nat) :
    word2At (b :: bs) (i + 1) = word2At bs i := rfl

@[simp] theorem word3At_cons_succ (b : Byte) (bs : List Byte) (i : Nat) :
    word3At (b :: bs) (i + 1) = word3At bs i := rfl

@[simp] theorem toNat_byte (n : Nat) : (byte n).toNat = n % 256 := BitVec.toNat_ofNat ..

theorem word2At_bytes2 {n : Nat} (hn : n < 65536) (rest : List Byte) :
    word2At (byte (n / 256) :: byte n :: rest) 0 = n := by
  simp only [word2At, byteAt_cons_succ, byteAt_cons_zero, toNat_byte]
  omega

theorem word3At_bytes3 {n : Nat} (hn : n ≤ seqMax) (rest : List Byte) :
    word3At (byte (n / 65536) :: byte (n / 256) :: byte n :: rest) 0 = n := by
  unfold seqMax at hn
  simp only [word3At, word2At, byteAt_cons_succ, byteAt_cons_zero, toNat_byte]
  omega

@[simp] theorem station?_val (o : Station) : station? (o.val % 256) = some o := by
  rw [Nat.mod_eq_of_lt (by omega), station?, dif_pos o.isLt]

theorem beaconFlags_testBit (withdrawn full joining : Bool) :
    (beaconFlags withdrawn full joining % 256).testBit 0 = withdrawn ∧
    (beaconFlags withdrawn full joining % 256).testBit 1 = full ∧
    (beaconFlags withdrawn full joining % 256).testBit 2 = joining := by
  revert withdrawn full joining
  decide

theorem itemBytes_cons (i : Station × Nat) (items : List (Station × Nat)) :
    itemBytes (i :: items) =
      byte i.1.val :: byte (i.2 / 65536) :: byte (i.2 / 256) :: byte i.2 :: itemBytes items := rfl

@[simp] theorem length_itemBytes (items : List (Station × Nat)) : (itemBytes items).length = 4 * items.length := by
  induction items with
  | nil => rfl
  | cons i items ih =>
    simp only [itemBytes_cons, List.length_cons, ih]
    omega

@[simp] theorem readItems_cons_succ (b : Byte) (bs : List Byte) (n i : Nat) :
    readItems (b :: bs) n (i + 1) = readItems bs n i := by
  induction n generalizing i with
  | zero => rfl
  | succ n ih =>
    simp only [readItems, byteAt_cons_succ, word3At_cons_succ, Nat.add_right_comm i 1, ih]

/-- An H list reads back as its items (R97). -/
theorem readItems_itemBytes (items : List (Station × Nat)) (hseq : ∀ i ∈ items, i.2 ≤ seqMax) :
    readItems (itemBytes items) items.length 0 = items := by
  induction items with
  | nil => rfl
  | cons i items ih =>
    have rest := ih fun j hj => hseq j (List.mem_cons_of_mem _ hj)
    rw [itemBytes_cons, List.length_cons, readItems]
    simp [word3At_bytes3 (hseq i List.mem_cons_self), rest]

theorem length_beaconBody (factor : Nat) (roster : BitVec 16) (b : BeaconRec) :
    (beaconBody factor roster b).length = 11 + 4 * b.items.length := by
  simp only [beaconBody, bytes2, bytes3, List.length_append, List.length_cons, List.length_nil, length_itemBytes]
  omega

theorem bodyMessage_beaconBody (sender : Station) (roster own : BitVec 16) {factor : Nat} {b : BeaconRec}
    (hfactor : factor < 256) (hpublished : b.published ≤ seqMax) (floorPos : 1 ≤ b.floor) (hfloor : b.floor ≤ seqMax)
    (few : b.items.length ≤ 4) (hseq : ∀ i ∈ b.items, i.2 ≤ seqMax) :
    bodyMessage .beacon sender own (beaconBody factor roster b) = some (.beacon sender factor roster b) := by
  obtain ⟨hwithdrawn, hfull, hjoining⟩ := beaconFlags_testBit b.withdrawn b.full b.joining
  have count : b.items.length % 256 = b.items.length := Nat.mod_eq_of_lt (by omega)
  have length : 4 * b.items.length + 11 = 11 + 4 * b.items.length := Nat.add_comm ..
  simp [bodyMessage, beaconBody, bytes2, bytes3, word2At_bytes2 roster.isLt, word3At_bytes3 hpublished,
    word3At_bytes3 hfloor, readItems_itemBytes b.items hseq, hwithdrawn, hfull, hjoining, count, length, few, floorPos,
    Nat.mod_eq_of_lt hfactor]

theorem bodyMessage_wantBody {sender o : Station} {roster : BitVec 16} {first count : Nat}
    (member : inMask roster o = true) (firstPos : 1 ≤ first) (hfirst : first ≤ seqMax) (countPos : 1 ≤ count)
    (hcount : count ≤ 8) :
    bodyMessage .want sender roster (wantBody o first count) = some (.want sender o first count) := by
  have : count % 256 = count := Nat.mod_eq_of_lt (by omega)
  simp [bodyMessage, wantBody, bytes3, word3At_bytes3 hfirst, this, member, firstPos, countPos, hcount]

theorem length_pageBody (k : Key) (payload : List Byte) : (pageBody k payload).length = 5 + payload.length := by
  simp only [pageBody, bytes3, List.length_append, List.length_cons, List.length_nil]
  omega

/-- The fields of the body of a REPAIR or PAGE (R97). -/
theorem pageBody_fields (k : Key) {payload : List Byte} (hseq : k.seq ≤ seqMax) (nonempty : 1 ≤ payload.length)
    (short : payload.length ≤ 256) :
    byteAt (pageBody k payload) 0 = k.origin.val ∧ word3At (pageBody k payload) 1 = k.seq ∧
    (pageBody k payload).length = 6 + byteAt (pageBody k payload) 4 ∧ (pageBody k payload).drop 5 = payload := by
  have station := k.origin.isLt
  have origin : byteAt (pageBody k payload) 0 = k.origin.val % 256 := toNat_byte _
  have count : byteAt (pageBody k payload) 4 = (payload.length - 1) % 256 := toNat_byte _
  have seq : word3At (pageBody k payload) 1 = k.seq := word3At_bytes3 hseq (byte (payload.length - 1) :: payload)
  rw [length_pageBody, origin, count, seq]
  exact ⟨by omega, rfl, by omega, rfl⟩

theorem bodyMessage_repair {sender : Station} {roster : BitVec 16} {k : Key} {payload : List Byte}
    (member : inMask roster k.origin = true) (seqPos : 1 ≤ k.seq) (hseq : k.seq ≤ seqMax)
    (nonempty : 1 ≤ payload.length) (short : payload.length ≤ 256) :
    bodyMessage .repair sender roster (pageBody k payload) = some (.repair sender k payload) := by
  obtain ⟨origin, seq, length, rest⟩ := pageBody_fields k hseq nonempty short
  simp [bodyMessage, origin, seq, rest, ← length, station?, member, seqPos]

theorem bodyMessage_page {roster : BitVec 16} {k : Key} {payload : List Byte} (seqPos : 1 ≤ k.seq)
    (hseq : k.seq ≤ seqMax) (nonempty : 1 ≤ payload.length) (short : payload.length ≤ 256) :
    bodyMessage .page k.origin roster (pageBody k payload) = some (.page k.origin k payload) := by
  obtain ⟨origin, seq, length, rest⟩ := pageBody_fields k hseq nonempty short
  simp [bodyMessage, origin, seq, rest, ← length, seqPos]

/-! ## Messages -/

/-- The body of a message that fits reads back as the message (check 6 of R100). -/
theorem bodyMessage_body {roster : BitVec 16} {m : Message} (fits : m.fits roster) :
    bodyMessage m.kind m.sender roster m.body = some m := by
  cases m with
  | beacon p factor own b =>
    obtain ⟨hfactor, hpublished, floorPos, hfloor, few, hseq⟩ := fits
    exact bodyMessage_beaconBody p own roster hfactor hpublished floorPos hfloor few hseq
  | want p o first count =>
    obtain ⟨member, firstPos, hfirst, countPos, hcount⟩ := fits
    exact bodyMessage_wantBody member firstPos hfirst countPos hcount
  | repair p k payload =>
    obtain ⟨member, seqPos, hseq, nonempty, short⟩ := fits
    exact bodyMessage_repair member seqPos hseq nonempty short
  | page p k payload =>
    obtain ⟨rfl, seqPos, hseq, nonempty, short⟩ := fits
    exact bodyMessage_page seqPos hseq nonempty short

/-- A kind's body has a length that R97 allows, and so fits the assembly buffer. -/
theorem length_le_of_lengthAllowed {kind : FrameKind} {l : Nat} (h : lengthAllowed kind l = true) : l ≤ 261 := by
  cases kind <;> simp only [lengthAllowed, Bool.or_eq_true, Bool.and_eq_true, beq_iff_eq, decide_eq_true_eq] at h <;>
    omega

theorem lengthAllowed_body {roster : BitVec 16} {m : Message} (fits : m.fits roster) :
    lengthAllowed m.kind m.body.length = true := by
  cases m with
  | beacon p factor own b =>
    obtain ⟨-, -, -, -, few, -⟩ := fits
    simp only [Message.kind, Message.body, lengthAllowed, length_beaconBody, Bool.or_eq_true, beq_iff_eq]
    omega
  | want p o first count => rfl
  | repair p k payload =>
    obtain ⟨-, -, -, nonempty, short⟩ := fits
    simp only [Message.kind, Message.body, lengthAllowed, length_pageBody, Bool.and_eq_true, decide_eq_true_eq]
    omega
  | page p k payload =>
    obtain ⟨-, -, -, nonempty, short⟩ := fits
    simp only [Message.kind, Message.body, lengthAllowed, length_pageBody, Bool.and_eq_true, decide_eq_true_eq]
    omega

/-- Settles O13: the assembly buffer holds the built header, body and check, and the body reads back as the message. -/
theorem builtFrameIsReceivedAsItsMessage : Obligations.BuiltFrameIsReceivedAsItsMessage := by
  intro tag roster m member fits
  have allowed := lengthAllowed_body fits
  exact checkFrame_frameBits member allowed (length_le_of_lengthAllowed allowed) (bodyMessage_body fits)

end Sys2Proof.FrameProofs

/-! PROOFS. RETIRE (R135): what the port does with a command that it is ready to take (R165, R166), and the tests of
RETIRE, each with the state it answers. -/

namespace Sys2Proof.RetireProofs

open Sys2Proof.Machine

/-! ## A command of a port that is ready -/

/-- With no select period open, no transaction has to be closed before a command is taken. -/
theorem beginCommand_of_closed {s : State} (closed : s.port.selected = false) (code : Byte) (args : List Byte) :
    s.beginCommand code args =
      { s with selLow := true, port := { s.port with selected := true, decoder := code :: args, taken := true } } := by
  have noTransaction : ¬ s.port.selected = true := by
    rw [closed]
    exact Bool.false_ne_true
  simp only [State.beginCommand, if_neg noTransaction]

/-- Taking a command and forming its response, with no effect in between, is answering it. -/
theorem respond_beginCommand {s : State} (closed : s.port.selected = false) (code : Byte) (args : List Byte)
    (st : Status) (bytes : List Byte) :
    (s.beginCommand code args).respond code st bytes = s.answered code args st bytes := by
  rw [beginCommand_of_closed closed]
  rfl

/-- In an accepting state, a port that is ready passes the state test and runs the command's own tests. -/
theorem command_of_ready {s : State} {accepts : StationState → Bool} (ready : s.hostReady)
    (accepted : accepts s.ctl.state = true) (code : Byte) (args : List Byte) (body : State → State) :
    s.command code args accepts body = body (s.beginCommand code args) := by
  obtain ⟨resetHigh, running, closed⟩ := ready
  have taken : ¬ s.resetLow = true := by
    rw [resetHigh]
    exact Bool.false_ne_true
  have passes : ¬ ((s.beginCommand code args).ctl.stopping || !accepts (s.beginCommand code args).ctl.state) = true := by
    rw [beginCommand_of_closed closed]
    simp only [running, accepted, Bool.not_true, Bool.or_self, Bool.false_eq_true, not_false_eq_true]
  simp only [State.command, if_neg taken, if_neg passes]

/-! ## The tests of RETIRE, in the order of R135 -/

/-- RETIRE's floor lies where BAD_ARG refuses it: below the own floor, or above P + 1. -/
theorem retireFloor_of_outside {s : State} {f : Nat}
    (outside : f < (s.org s.self).floor ∨ (s.org s.self).published + 1 < f) :
    s.retireFloor f = s.respond codeRetire .badArg [] := by
  have refused : (decide (f < (s.org s.self).floor) || decide ((s.org s.self).published + 1 < f)) = true := by
    rwa [Bool.or_eq_true, decide_eq_true_eq, decide_eq_true_eq]
  exact if_pos refused

/-- Once the floor asked for is in range, the Retirement record alone decides. -/
theorem retireFloor_of_inside {s : State} {f : Nat} (above : (s.org s.self).floor ≤ f)
    (below : f ≤ (s.org s.self).published + 1) :
    s.retireFloor f =
      if s.retire.marking.isSome = true then s.respond codeRetire .busy []
      else ({ s with retire := ⟨some f, true⟩ }.respond codeRetire .accepted []).settle := by
  have inRange : ¬ (decide (f < (s.org s.self).floor) || decide ((s.org s.self).published + 1 < f)) = true := by
    rw [Bool.or_eq_true, decide_eq_true_eq, decide_eq_true_eq]
    omega
  exact if_neg inRange

/-- In range, a floor still being marked refuses another with BUSY. -/
theorem retireFloor_of_marking {s : State} {f : Nat} (above : (s.org s.self).floor ≤ f)
    (below : f ≤ (s.org s.self).published + 1) (marking : s.retire.marking ≠ none) :
    s.retireFloor f = s.respond codeRetire .busy [] := by
  rw [retireFloor_of_inside above below, if_pos (Option.isSome_iff_ne_none.mpr marking)]

/-- In range and with no floor being marked, RETIRE is accepted: MARKING, with a mark program requested. -/
theorem retireFloor_of_idle {s : State} {f : Nat} (above : (s.org s.self).floor ≤ f)
    (below : f ≤ (s.org s.self).published + 1) (idle : s.retire.marking = none) :
    s.retireFloor f = ({ s with retire := ⟨some f, true⟩ }.respond codeRetire .accepted []).settle := by
  have notBusy : ¬ s.retire.marking.isSome = true := by
    rw [idle]
    exact Bool.false_ne_true
  rw [retireFloor_of_inside above below, if_neg notBusy]

/-- JOINING and ACTIVE take RETIRE, and a ready port runs its tests there. -/
theorem exec_retire {s : State} (ready : s.hostReady) (takes : s.ctl.state = .joining ∨ s.ctl.state = .active)
    (f : BitVec 24) :
    exec (.retire f) s = .next ((s.beginCommand codeRetire (bytes3 f.toNat)).retireFloor f.toNat) := by
  have accepted : acceptRetire s.ctl.state = true := by
    obtain joining | active := takes
    · rw [joining]; rfl
    · rw [active]; rfl
  exact congrArg Host.Outcome.next (command_of_ready ready accepted codeRetire _ _)

/-- Taking a command leaves alone the own origin record, which RETIRE is tested against. -/
theorem beginCommand_org_self {s : State} (closed : s.port.selected = false) (code : Byte) (args : List Byte) :
    (s.beginCommand code args).org (s.beginCommand code args).self = s.org s.self := by
  rw [beginCommand_of_closed closed]
  rfl

/-- Settles O38: the range test comes first, then the Retirement record; a refusal is the answer alone. -/
theorem retireIsTestedInOrder : Obligations.RetireIsTestedInOrder := by
  intro s f ready takes
  rw [exec_retire ready takes f]
  obtain ⟨-, -, closed⟩ := ready
  have own := beginCommand_org_self closed codeRetire (bytes3 f.toNat)
  have record : (s.beginCommand codeRetire (bytes3 f.toNat)).retire = s.retire := by
    rw [beginCommand_of_closed closed]
  refine ⟨fun outside => ?badArg, fun above below => ⟨fun marking => ?busy, fun idle => ?accepted⟩⟩
  case badArg =>
    rw [retireFloor_of_outside (by rwa [own]), respond_beginCommand closed]
    rfl
  case busy =>
    rw [retireFloor_of_marking (by rwa [own]) (by rwa [own]) (by rwa [record]), respond_beginCommand closed]
    rfl
  case accepted =>
    rw [retireFloor_of_idle (by rwa [own]) (by rwa [own]) (by rwa [record]), beginCommand_of_closed closed]
    rfl

end Sys2Proof.RetireProofs

/-! PROOFS. RESET (R150): what RESET held low holds back, and its rise. Four guards say why a command does nothing then:
the port takes no command, the line interface is not active, no happening is taken, and no array operation ends. -/

namespace Sys2Proof.StartProofs

open Sys2Proof.Machine

/-! ## RESET held low (R150) -/

section ResetLow

variable {s : State} (low : s.resetLow = true)

include low

/-- While RESET is low no happening is taken. -/
theorem awake_of_resetLow : s.awake = false := by simp [State.awake, low]

/-- While RESET is low the line interface is not active. -/
theorem lineActive_of_resetLow : s.lineActive = false := by simp [State.lineActive, low]

/-- While RESET is low no frame begins. -/
theorem mayBegin_of_resetLow : s.mayBegin = false := by simp [State.mayBegin, awake_of_resetLow low]

/-- While RESET is low the port takes no command. -/
theorem command_of_resetLow (code : Byte) (args : List Byte) (accepts : StationState → Bool) (body : State → State) :
    s.command code args accepts body = s := if_pos low

/-- While RESET is low the SEL pin alone moves when select rises. -/
theorem exec_selectRise_of_resetLow : exec .selectRise s = .next { s with selLow := false } :=
  congrArg Host.Outcome.next (if_pos (by rw [low, Bool.true_or]))

/-- While RESET is low every command but the starts and the rise of SEL leaves the station as it is: the port takes no
command, the line interface is not active, no happening is taken, and no array operation ends. -/
theorem exec_of_resetLow (c : Instr) (held : c.movesReset = false) : exec c s = .next s := by
  cases c
  case powerOn | resetLow | resetRise | selectRise => contradiction
  case status | notice | counts | peer | origin | publish | read | take | retire | restart =>
    exact congrArg Host.Outcome.next (command_of_resetLow low ..)
  case badCmd code =>
    exact congrArg Host.Outcome.next (ite_eq_left_iff.mpr fun _ => command_of_resetLow low ..)
  case configure record =>
    exact congrArg Host.Outcome.next (ite_eq_right_iff.mpr fun _ => command_of_resetLow low ..)
  case selectFallCmdDiscard bytes =>
    exact congrArg Host.Outcome.next (if_pos (by rw [low, Bool.true_or]))
  case stoppingEnd =>
    exact congrArg Host.Outcome.next (if_neg (by simp [low]))
  case responseClockedOut =>
    simp only [exec, execResponseClockedOut, low, Bool.true_or, if_true]
    split <;> rfl
  case configurationReadEnd | configurationWriteEnd | scanHeaderReadEnd | scanMarkReadEnd | pageReadEnd | pageProgramEnd
      | tagProgramEnd | eraseEnd =>
    simp only [exec, execConfigurationReadEnd, execConfigurationWriteEnd, execScanHeaderReadEnd, execScanMarkReadEnd,
      execPageReadEnd, execPageProgramEnd, execTagProgramEnd, execEraseEnd, low, if_true]
    split <;> rfl
  case frameEndGap | symbolError | strayLow | frameStart | recoveryPeriodEnd | lineBreak | lineStuck | lineStuckClear
      | ackPulseEnd | breakEnd =>
    simp [exec, execFrameEndGap, execSymbolError, execStrayLow, execFrameStart, execRecoveryPeriodEnd, execLineBreak,
      execLineStuck, execLineStuckClear, execAckPulseEnd, execBreakEnd, lineActive_of_resetLow low]
  case dataBit | driveNextSymbol | arbitrationLoss | collision | sentToEnd | ackWindowEnd | ackSlotSampling =>
    simp only [exec, execDataBit, execDriveNextSymbol, execArbitrationLoss, execCollision, execSentToEnd,
      execAckWindowEnd, execAckSlotSampling, lineActive_of_resetLow low, Bool.false_and, Bool.false_eq_true, if_false]
    split <;> rfl
  case startMoment => simp [exec, execStartMoment, mayBegin_of_resetLow low]
  case listeningEnd | joinLimit => simp [exec, execListeningEnd, execJoinLimit, awake_of_resetLow low]
  case ackPulse | earliestStartPasses | silenceTimeout | beaconTimerExpiry | wantDeadline | stalledReaskDue
      | fetchDeadline =>
    simp only [exec, execAckPulse, execEarliestStartPasses, execSilenceTimeout, execBeaconTimerExpiry,
      execWantDeadline, execStalledReaskDue, execFetchDeadline, awake_of_resetLow low, Bool.false_and,
      Bool.false_eq_true, if_false]
    (repeat' split) <;> rfl

end ResetLow

/-- With RESET low, its rise begins the start sequence with the configuration read, and does nothing else. -/
theorem exec_resetRise {s : State} (low : s.resetLow = true) :
    exec .resetRise s =
      .next { s with resetLow := false, array := { s.array with running := some ⟨.configRead, s.now⟩ } } :=
  congrArg Host.Outcome.next (if_pos low)

/-- Settles O19: RESET_RISE runs the configuration read, SELECT_RISE moves its pin, and every other command that is no
start is held back by one of four guards. -/
theorem resetHoldsTheStationUntilItRises : Obligations.ResetHoldsTheStationUntilItRises :=
  ⟨fun _ => exec_resetRise, fun _ => exec_selectRise_of_resetLow, fun c _ low held => exec_of_resetLow low c held⟩

end Sys2Proof.StartProofs

/-! PROOFS. The scan's header read of a tag (R154, R155, R157): what the consequences of a happening keep of a block's
state, what a BAD block's tag leaves in the array manager, and how a header pass ends. -/

namespace Sys2Proof.ScanProofs

open Sys2Proof.Machine

/-! ## Releases keep the state of every block -/

section BlockStates

variable (s : State) (b : Block)

@[simp] theorem undoPlace_blockState (p : Place) :
    ((s.undoPlace p).array.blocks.get b).state = (s.array.blocks.get b).state := by
  unfold State.undoPlace
  split
  case h_1 l _ =>
    simp only [State.subLive, State.setBlock_blocks, upd_get]
    split <;> rfl
  case h_2 => simp [State.dropLanding, State.freeBuffer, apply_ite State.array]
  case h_3 => rfl

@[simp] theorem release_blockState (k : Key) :
    ((s.release k).array.blocks.get b).state = (s.array.blocks.get b).state := by
  unfold State.release
  split <;> simp

@[simp] theorem releaseAll_blockState (ks : List Key) :
    ((s.releaseAll ks).array.blocks.get b).state = (s.array.blocks.get b).state :=
  foldl_keep (fun s => (s.array.blocks.get b).state) State.release (fun s k => release_blockState s b k) ks s

@[simp] theorem releaseCheck_blockState (o : Station) :
    ((s.releaseCheck o).array.blocks.get b).state = (s.array.blocks.get b).state := by
  simp only [State.releaseCheck]
  split <;> simp [State.standInRelease]

@[simp] theorem evaluateOne_blockState (o : Station) :
    ((s.evaluateOne o).array.blocks.get b).state = (s.array.blocks.get b).state := by
  simp only [State.evaluateOne, State.stopStanding]
  (repeat' split) <;> simp

@[simp] theorem evaluate_blockState : (s.evaluate.array.blocks.get b).state = (s.array.blocks.get b).state := by
  unfold State.evaluate
  split
  · exact foldl_keep (fun s => (s.array.blocks.get b).state) State.evaluateOne
      (fun s o => evaluateOne_blockState s b o) stations s
  · rfl

@[simp] theorem afterStateChange_blockState (before : BitVec 16) :
    ((s.afterStateChange before).array.blocks.get b).state = (s.array.blocks.get b).state := by
  refine (foldl_keep (fun s => (s.array.blocks.get b).state) _ (fun s o => ?_) stations s.evaluate).trans
    (evaluate_blockState s b)
  split <;> simp

@[simp] theorem publishFailed_blockState :
    (s.publishFailed.array.blocks.get b).state = (s.array.blocks.get b).state := by
  unfold State.publishFailed
  split <;> simp

@[simp] theorem discardLanding_blockState :
    (s.discardLanding.array.blocks.get b).state = (s.array.blocks.get b).state := by
  simp only [State.discardLanding]
  split <;> simp

@[simp] theorem exhaust_blockState (reason : StorageReason) (a : Block) :
    ((s.exhaust reason a).array.blocks.get b).state = (s.array.blocks.get b).state := by
  simp only [State.exhaust, State.withdraw, State.enterWithdrawn, State.endStoring]
  (repeat' split) <;> simp

@[simp] theorem exhaustIfNoSlot_blockState :
    (s.exhaustIfNoSlot.array.blocks.get b).state = (s.array.blocks.get b).state := by
  unfold State.exhaustIfNoSlot
  split <;> simp

@[simp] theorem judgeFull_blockState : (s.judgeFull.array.blocks.get b).state = (s.array.blocks.get b).state := by
  simp only [State.judgeFull, State.setFull]
  (repeat' split) <;> simp

@[simp] theorem joinExit_blockState : (s.joinExit.array.blocks.get b).state = (s.array.blocks.get b).state := by
  simp only [State.joinExit, State.enterActive]
  split <;> simp

/-- The grant of a program counts a slot of the OPEN block as used, and changes no block's state. -/
@[simp] theorem grantProgram_blockState (src : Source) (item : ProgItem) :
    ((s.grantProgram src item).array.blocks.get b).state = (s.array.blocks.get b).state := by
  unfold State.grantProgram
  split
  · simp only [State.run_frame, State.putSlot_frame, State.setBlock_blocks, upd_get]
    split <;> rfl
  · rfl

@[simp] theorem perform_blockState (g : Grant) :
    ((s.perform g).array.blocks.get b).state = (s.array.blocks.get b).state := by
  simp only [State.perform, State.grantStep]
  (repeat' split) <;> simp

@[simp] theorem grant_blockState : (s.grant.array.blocks.get b).state = (s.array.blocks.get b).state := by
  unfold State.grant
  split <;> simp

end BlockStates

/-! ## A BAD block stays BAD -/

/-- The list of storage blocks pairs each with its own record. -/
theorem block_of_mem_storageBlocks {s : State} {e : Block × BlockRec} (mem : e ∈ s.storageBlocks) :
    s.block e.1 = e.2 := by
  obtain ⟨⟨r, i⟩, inTable, rfl⟩ := List.mem_map.mp mem
  obtain ⟨inside, rfl⟩ :=
    List.getElem?_eq_some_iff.mp (List.mk_mem_zipIdx_iff_getElem?.mp (List.mem_of_mem_drop inTable))
  have small : i < 512 := by simpa using inside
  simp [State.block, Vector.get, Nat.mod_eq_of_lt small]

theorem mem_of_fewestLive : ∀ {l : List (Block × BlockRec)} {e : Block × BlockRec}, fewestLive l = some e → e ∈ l
  | d :: r, e, h => by
    unfold fewestLive at h
    split at h
    case h_1 x found =>
      split at h
      · exact Option.some.inj h ▸ List.mem_cons_self
      · exact Option.some.inj h ▸ List.mem_cons_of_mem d (mem_of_fewestLive found)
    case h_2 => exact Option.some.inj h ▸ List.mem_cons_self

/-- The victim that reclaim chooses is a CLOSED block (R142). -/
theorem closed_of_chooseVictim {s : State} {v : Block} (chosen : s.chooseVictim = some v) :
    (s.block v).state = .closed := by
  have candidate : ∃ e ∈ s.victimCandidates, e.1 = v := by
    unfold State.chooseVictim at chosen
    split at chosen
    case h_1 e found => exact ⟨e, List.mem_of_find?_eq_some found, Option.some.inj chosen⟩
    case h_2 =>
      obtain ⟨e, found, rfl⟩ := Option.map_eq_some_iff.mp chosen
      exact ⟨e, (List.mem_filter.mp (mem_of_fewestLive found)).1, rfl⟩
  obtain ⟨e, mem, rfl⟩ := candidate
  obtain ⟨stored, eligible⟩ := List.mem_filter.mp mem
  rw [block_of_mem_storageBlocks stored]
  simp only [Bool.and_eq_true, beq_iff_eq] at eligible
  exact eligible.1

/-- The victim search takes no BAD block. -/
theorem searchVictim_keeps_bad {s : State} {b : Block} (bad : (s.array.blocks.get b).state = .bad) :
    (s.searchVictim.array.blocks.get b).state = .bad := by
  unfold State.searchVictim
  split
  case isFalse => exact bad
  case isTrue =>
    split
    case h_1 => simpa using bad
    case h_2 =>
      split
      case isFalse => exact bad
      case isTrue =>
        split
        case h_2 => exact bad
        case h_1 v chosen =>
          have other : v ≠ b := by
            rintro rfl
            have closed := closed_of_chooseVictim chosen
            rw [State.block, bad] at closed
            contradiction
          simpa [other] using bad

/-- What follows from a happening leaves a BAD block BAD. -/
theorem settle_keeps_bad {s : State} {b : Block} (bad : (s.array.blocks.get b).state = .bad) :
    (s.settle.array.blocks.get b).state = .bad := by
  unfold State.settle
  split
  case isFalse => exact bad
  case isTrue =>
    have firstSearch : (s.dropPage.dropCopies.exhaustIfNoSlot.searchVictim.array.blocks.get b).state = .bad :=
      searchVictim_keeps_bad (by simpa using bad)
    have secondSearch := searchVictim_keeps_bad ((judgeFull_blockState _ b).trans firstSearch)
    simpa [State.settleArray] using secondSearch

/-! ## What follows in LISTENING -/

/-- With no page pending, no copy read and the station in LISTENING, what follows from a happening leaves station control
alone: there is no page without a slot to exhaust storage, and no JOINING to leave. -/
theorem settle_ctl_of_listening {s : State} (listening : s.ctl.state = .listening)
    (noPage : s.array.failure.page = none) (noCopy : s.array.failure.buffer = none)
    (noRelocation : s.array.reclaim.buffer = none) : s.settle.ctl = s.ctl := by
  have kept : s.dropPage.dropCopies.exhaustIfNoSlot = s := by
    have page : s.dropPage = s := by simp [State.dropPage, noPage]
    have copies : s.dropCopies = s := by simp [State.dropCopies, noCopy, noRelocation]
    rw [page, copies]
    simp [State.exhaustIfNoSlot, noPage, noCopy, noRelocation]
  have array : s.settleArray.ctl = s.ctl := by simp [State.settleArray, kept]
  unfold State.settle
  split
  · simp [State.joinExit, array, listening]
  · rfl

/-! ## A tag that makes its block BAD (R155) -/

section ScanBad

variable (s : State) (b : Block) (stamp : Nat)

theorem scanBad_badTable :
    (s.scanBad b stamp).array.badTable =
      if s.array.badTable.length < 32 then s.array.badTable ++ [b] else s.array.badTable := by
  simp only [State.scanBad, State.setScan_frame, State.setBlock_frame]
  split <;> rfl

theorem scanBad_blocks :
    (s.scanBad b stamp).array.blocks = upd s.array.blocks b fun r => { r with state := .bad } := by
  simp only [State.scanBad]
  split <;> rfl

theorem scanBad_block_self : (s.scanBad b stamp).block b = { s.block b with state := .bad } := by
  simp [State.block, scanBad_blocks]

/-- The scan keeps the stamp of a BAD block's tag, and the lowest such block without a record. -/
theorem scanBad_scan :
    (s.scanBad b stamp).array.scan = s.array.scan.map fun c =>
      { c with
        maxStamp := max c.maxStamp stamp
        unrecorded := if s.array.badTable.length < 32 then c.unrecorded else c.unrecorded.or (some b) } := by
  simp only [State.scanBad, State.setScan_frame, State.setBlock_frame]
  split <;> simp [State.setScan, Function.comp_def]

end ScanBad

/-! ## After a tag: the next block, or the end of the pass (R154, R157) -/

theorem nextBlock_of_lt {s : State} {b : Block} (inside : b.val < 511) :
    s.nextBlock b false = s.run (.scanTag (b + 1)) := by
  have next : (⟨b.val + 1, by omega⟩ : Block) = b + 1 := by
    ext
    simp only [Fin.val_add, Fin.val_one]
    omega
  simp only [State.nextBlock, Bool.false_eq_true, if_false, dif_pos (show b.val + 1 < 512 by omega), next]

theorem nextBlock_of_last {s : State} {b : Block} (last : b.val = 511) : s.nextBlock b false = s.endPass := by
  simp [State.nextBlock, last]

theorem endPass_of_mark {s : State} {c : Scan} {l : Loc} {stamp : Nat} (scan : s.array.scan = some c)
    (mark : c.mark = some (l, stamp)) : s.endPass = s.run (.scanMark l stamp) := by
  simp [State.endPass, scan, mark]

theorem endPass_of_noMark {s : State} {c : Scan} (scan : s.array.scan = some c) (mark : c.mark = none) :
    s.endPass = (s.settlePublished 0).endScan := by
  simp [State.endPass, scan, mark]

/-! ## The end of the scan (R157) -/

/-- The block made OPEN as the scan ends is the best partially programmed one or the head of the Free Block List. -/
theorem openScanned_keeps_bad {s : State} {b : Block} {c : Scan} (notBest : ∀ stamp, c.openBest ≠ some (b, stamp))
    (notFree : b ∉ s.array.freeList) (bad : (s.array.blocks.get b).state = .bad) :
    ((s.openScanned c).array.blocks.get b).state = .bad := by
  unfold State.openScanned
  split
  case h_1 a stamp best =>
    have other : a ≠ b := by
      rintro rfl
      exact notBest stamp best
    simpa [other] using bad
  case h_2 =>
    unfold State.openNext
    split
    case h_1 a rest _ free =>
      have other : a ≠ b := by
        rintro rfl
        exact notFree (free ▸ List.mem_cons_self)
      simpa [other] using bad
    case h_2 => exact bad

theorem leaveScan_blockState (s : State) (c : Scan) (b : Block) :
    ((s.leaveScan c).array.blocks.get b).state = (s.array.blocks.get b).state := by
  unfold State.leaveScan
  (repeat' split) <;> simp

theorem endScan_of_scan {s : State} {c : Scan} (scan : s.array.scan = some c) :
    s.endScan =
      ((({ s with array := { s.array with scan := none, nextStamp := c.maxStamp + 1 } } : State).openScanned c).leaveScan
        c).settle := by
  simp only [State.endScan, scan]

theorem endScan_keeps_bad {s : State} {b : Block}
    (notBest : ∀ c stamp, s.array.scan = some c → c.openBest ≠ some (b, stamp)) (notFree : b ∉ s.array.freeList)
    (bad : (s.array.blocks.get b).state = .bad) : (s.endScan.array.blocks.get b).state = .bad := by
  cases scan : s.array.scan with
  | none => simpa [State.endScan, scan] using bad
  | some c =>
    rw [endScan_of_scan scan]
    refine settle_keeps_bad ((leaveScan_blockState _ c b).trans ?_)
    exact openScanned_keeps_bad (fun stamp => notBest c stamp scan) notFree bad

theorem endPass_keeps_bad {s : State} {b : Block}
    (notBest : ∀ c stamp, s.array.scan = some c → c.openBest ≠ some (b, stamp)) (notFree : b ∉ s.array.freeList)
    (bad : (s.array.blocks.get b).state = .bad) : (s.endPass.array.blocks.get b).state = .bad := by
  unfold State.endPass
  split
  case h_1 => exact bad
  case h_2 => exact endScan_keeps_bad (by simpa using notBest) (by simpa using notFree) (by simpa using bad)

theorem endScan_scan (s : State) : s.endScan.array.scan = none := by
  cases scan : s.array.scan with
  | none => simp [State.endScan, scan]
  | some c => simp [endScan_of_scan scan]

/-- With every BAD block recorded and stamps left, the station enters LISTENING (R157). -/
theorem leaveScan_of_listening (s : State) {c : Scan} (recorded : c.unrecorded = none)
    (stampsLeft : c.maxStamp < stampMax) : s.leaveScan c = (s.enter .listening).evaluate.fillAll := by
  simp only [State.leaveScan, recorded, if_neg (Nat.not_le.mpr stampsLeft)]

theorem endScan_listening {s : State} {c : Scan} (scan : s.array.scan = some c) (recorded : c.unrecorded = none)
    (stampsLeft : c.maxStamp < stampMax) (noFailure : s.array.failure = ⟨[], none, none⟩)
    (noRelocation : s.array.reclaim.buffer = none) : s.endScan.ctl.state = .listening := by
  rw [endScan_of_scan scan, leaveScan_of_listening _ recorded stampsLeft, settle_ctl_of_listening]
  all_goals simp [State.enter, noFailure, noRelocation]

/-! ## The header read of a tag -/

/-- The end of a tag's header read: the clock moves to the due moment, and the tag is judged. -/
theorem exec_scanHeaderReadEnd_tag {s : State} {b : Block} {started : Nat} (resetHigh : s.resetLow = false)
    (notStopping : s.ctl.stopping = false) (running : s.array.running = some ⟨.scanTag b, started⟩) (disturbed : Bool) :
    exec (.scanHeaderReadEnd disturbed) s =
      .next ((s.reach (started + 160)).endOperation.scanTagDone b (s.tagRead b disturbed)) := by
  have awake : (s.reach (started + us 10)).endOperation.ctl.stopping = false := notStopping
  simp only [exec, execScanHeaderReadEnd, running, resetHigh, awake, Bool.false_eq_true, if_false]
  rfl

/-- A block whose tag leaves it in use has its slots read next, from slot 0 on. -/
theorem scanSlots_keeps (s : State) (b : Block) (tagInvalid : Bool) :
    let t := s.scanSlots b tagInvalid
    t.array.running = some ⟨.scanSlot ⟨b, 0⟩, t.now⟩ ∧ t.array.blocks = s.array.blocks ∧
      t.array.badTable = s.array.badTable ∧ t.array.flash = s.array.flash ∧ t.dir = s.dir ∧
      ∀ c, s.array.scan = some c →
        t.array.scan = some { c with tagInvalid := tagInvalid, highest := none, blockStamp := none } :=
  ⟨rfl, rfl, rfl, rfl, rfl, fun _ scan => congrArg (Option.map _) scan⟩

/-- After a tag that makes its block BAD the block is BAD to the end of the pass, unless it was to be OPEN. -/
theorem scanBad_nextBlock_keeps_bad {s : State} {b : Block} {stamp : Nat}
    (notBest : ∀ c stamp, s.array.scan = some c → c.openBest ≠ some (b, stamp)) (notFree : b ∉ s.array.freeList) :
    (((s.scanBad b stamp).nextBlock b false).block b).state = .bad := by
  have bad : ((s.scanBad b stamp).block b).state = .bad := by rw [scanBad_block_self]
  obtain inside | last : b.val < 511 ∨ b.val = 511 := by omega
  · rw [nextBlock_of_lt inside]
    exact bad
  · rw [nextBlock_of_last last]
    refine endPass_keeps_bad (fun c' best noted => ?_) (by simpa using notFree) bad
    rw [scanBad_scan] at noted
    obtain ⟨c, scan, rfl⟩ := Option.map_eq_some_iff.mp noted
    exact notBest c best scan

/-- After the tag of block 511 the newest mark found is read. -/
theorem scanBad_nextBlock_of_mark {s : State} {b : Block} {c : Scan} {l : Loc} {best : Nat} (stamp : Nat)
    (last : b.val = 511) (scan : s.array.scan = some c) (mark : c.mark = some (l, best)) :
    (s.scanBad b stamp).nextBlock b false = (s.scanBad b stamp).run (.scanMark l best) := by
  rw [nextBlock_of_last last]
  exact endPass_of_mark ((scanBad_scan s b stamp).trans (congrArg (Option.map _) scan)) mark

/-- After the tag of block 511, with no mark found, the scan ends. -/
theorem scanBad_nextBlock_of_noMark {s : State} {b : Block} {c : Scan} (stamp : Nat) (last : b.val = 511)
    (scan : s.array.scan = some c) (mark : c.mark = none) :
    (s.scanBad b stamp).nextBlock b false = ((s.scanBad b stamp).settlePublished 0).endScan := by
  rw [nextBlock_of_last last]
  exact endPass_of_noMark ((scanBad_scan s b stamp).trans (congrArg (Option.map _) scan)) mark

/-- The scan that ends with storage not exhausted leaves the station in LISTENING. -/
theorem scanBad_endScan_listening {s : State} {c : Scan} {stamp : Nat} (b : Block) (scan : s.array.scan = some c)
    (recorded : c.unrecorded = none) (room : s.array.badTable.length < 32) (below : c.maxStamp < stampMax)
    (stampBelow : stamp < stampMax) (noFailure : s.array.failure = ⟨[], none, none⟩)
    (noRelocation : s.array.reclaim.buffer = none) :
    ((s.scanBad b stamp).settlePublished 0).endScan.ctl.state = .listening := by
  have noted := (scanBad_scan s b stamp).trans (congrArg (Option.map _) scan)
  refine endScan_listening ((congrArg ArrayManager.scan (by simp)).trans noted) ?_ (Nat.max_lt.mpr ⟨below, stampBelow⟩) ?_ ?_
  · exact (if_pos room).trans recorded
  · simpa using noFailure
  · simpa using noRelocation

/-- Both kinds of tag that make their block BAD: its record, its state, and what is read next. `below` stands for the
statement's bound on the stamp of a RETIRED tag; FACTORY_BAD counts as stamp 0 and needs none. -/
theorem scanBad_nextBlock (s : State) (b : Block) (stamp : Nat) {below : Prop} (bound : below → stamp < stampMax) :
    let t := (s.scanBad b stamp).nextBlock b false
    t.array.badTable = (if s.array.badTable.length < 32 then s.array.badTable ++ [b] else s.array.badTable) ∧
      ((∀ c best, s.array.scan = some c → c.openBest ≠ some (b, best)) → b ∉ s.array.freeList →
        (t.block b).state = .bad) ∧
      (b.val < 511 →
        t.array.running = some ⟨.scanTag (b + 1), t.now⟩ ∧ t.block b = { s.block b with state := .bad } ∧
          t.array.flash = s.array.flash ∧ t.dir = s.dir) ∧
      (b.val = 511 → ∀ c, s.array.scan = some c →
        (∀ l best, c.mark = some (l, best) →
          t.array.running = some ⟨.scanMark l best, t.now⟩ ∧ t.array.flash = s.array.flash ∧ t.dir = s.dir) ∧
        (c.mark = none → t.array.scan = none ∧
          (s.ctl.state = .scanning → c.unrecorded = none → s.array.badTable.length < 32 → c.maxStamp < stampMax →
            below → s.array.failure = ⟨[], none, none⟩ → s.array.reclaim.buffer = none →
            t.ctl.state = .listening))) := by
  refine ⟨?record, scanBad_nextBlock_keeps_bad, fun inside => ?next, fun last c scan =>
    ⟨fun l best mark => ?marked, fun mark => ?unmarked⟩⟩
  case record => simp [scanBad_badTable]
  case next =>
    rw [nextBlock_of_lt inside]
    exact ⟨rfl, scanBad_block_self s b stamp, by simp, by simp⟩
  case marked =>
    rw [scanBad_nextBlock_of_mark stamp last scan mark]
    exact ⟨rfl, by simp, by simp⟩
  case unmarked =>
    rw [scanBad_nextBlock_of_noMark stamp last scan mark]
    exact ⟨endScan_scan _, fun _ recorded room stampsLeft stampBelow =>
      scanBad_endScan_listening b scan recorded room stampsLeft (bound stampBelow)⟩

/-- Settles O24: the judgement of the tag by its value; a block that stays in use is read slot by slot, and a BAD one
is passed over. -/
theorem scanJudgesATag : Obligations.ScanJudgesATag := by
  intro b disturbed started s resetHigh notStopping running
  refine ⟨_, exec_scanHeaderReadEnd_tag resetHigh notStopping running disturbed, ?clock, ?tag⟩
  case clock => cases s.tagRead b disturbed <;> simp [State.scanTagDone]
  case tag =>
    cases s.tagRead b disturbed with
    | blank => exact scanSlots_keeps _ b false
    | invalid => exact scanSlots_keeps _ b true
    | factoryBad => exact scanBad_nextBlock _ b 0 fun _ => by decide
    | retired reason stamp => exact scanBad_nextBlock _ b stamp fun below => below reason stamp rfl

end Sys2Proof.ScanProofs

/-! PROOFS. The configuration record (section 11.3): its tests by the bytes (R181), its check (R180), and what CONFIGURE
and the configuration read do with a record that fails them (R152, R178). -/

namespace Sys2Proof.RecordProofs

open Sys2Proof.Machine Sys2Proof.FrameProofs Sys2Proof.RetireProofs

/-! ## The fields of a record -/

theorem byteAt_append_right (bs rest : List Byte) (i : Nat) : byteAt (bs ++ rest) (bs.length + i) = byteAt rest i := by
  rw [byteAt, List.getD_eq_getElem?_getD, List.getElem?_append_right (Nat.le_add_right ..), Nat.add_sub_cancel_left,
    ← List.getD_eq_getElem?_getD, byteAt]

theorem word2At_append_right (bs rest : List Byte) : word2At (bs ++ rest) bs.length = word2At rest 0 := by
  have first : byteAt (bs ++ rest) bs.length = byteAt rest 0 := byteAt_append_right bs rest 0
  rw [word2At, first, byteAt_append_right, word2At]

theorem word2At_cons_cons (b c : Byte) (rest : List Byte) : word2At (b :: c :: rest) 0 = (b ++ c).toNat := by
  rw [BitVec.toNat_append, ← Nat.shiftLeft_add_eq_or_of_lt c.isLt, Nat.shiftLeft_eq, Nat.mul_comm]
  rfl

/-- The stations are the numbers below 16, so a roster has as many members as ONE bits. -/
theorem rosterSize_eq (m : BitVec 16) : rosterSize m = ((List.range 16).filter m.getLsbD).length := by
  have numbers : List.range 16 = stations.map Fin.val := rfl
  rw [numbers, List.filter_map, List.length_map]
  rfl

/-! ## The tests of a record (R181) -/

/-- The record's own station number has to be one. -/
theorem decodeRecord_of_badNumber {bs : List Byte} (bad : 16 ≤ byteAt bs 1) : decodeRecord bs = none := by
  simp only [decodeRecord, station?, dif_neg (Nat.not_lt.mpr bad)]

/-- A record with a station number has its fields tested against their ranges and the roster. -/
theorem decodeRecord_of_number {bs : List Byte} (good : byteAt bs 1 < 16) :
    decodeRecord bs =
      let roster := BitVec.ofNat 16 (word2At bs 2)
      if roster.getLsbD (byteAt bs 1) = true ∧ 1 ≤ byteAt bs 4 ∧ byteAt bs 4 ≤ 4 ∧
          byteAt bs 4 ≤ rosterSize roster ∧ byteAt bs 5 ≤ 3 ∧ byteAt bs 6 ≤ 15 then
        some ⟨bs.getD 0 0, ⟨byteAt bs 1, good⟩, roster, byteAt bs 4, byteAt bs 5, byteAt bs 6⟩
      else none := by
  simp only [decodeRecord, station?, dif_pos good, inMask, Bool.and_eq_true, decide_eq_true_eq, and_assoc]

/-- The seven bytes tested one by one. -/
theorem decodeRecord_bytes (b0 b1 b2 b3 b4 b5 b6 : Byte) :
    let roster : BitVec 16 := b2 ++ b3
    decodeRecord [b0, b1, b2, b3, b4, b5, b6] =
      if b1.toNat < 16 ∧ roster.getLsbD b1.toNat = true ∧ 1 ≤ b4.toNat ∧ b4.toNat ≤ 4 ∧
          b4.toNat ≤ ((List.range 16).filter roster.getLsbD).length ∧ b5.toNat ≤ 3 ∧ b6.toNat ≤ 15 then
        some ⟨b0, Fin.ofNat 16 b1.toNat, roster, b4.toNat, b5.toNat, b6.toNat⟩
      else none := by
  intro roster
  by_cases good : b1.toNat < 16
  case neg =>
    have bad : 16 ≤ byteAt [b0, b1, b2, b3, b4, b5, b6] 1 := Nat.not_lt.mp good
    rw [decodeRecord_of_badNumber bad, if_neg fun tests => good tests.1]
  case pos =>
    have word : BitVec.ofNat 16 (word2At [b0, b1, b2, b3, b4, b5, b6] 2) = roster := by
      rw [word2At_cons_succ, word2At_cons_succ, word2At_cons_cons, BitVec.ofNat_toNat, BitVec.setWidth_eq]
    have number : (⟨b1.toNat, good⟩ : Station) = Fin.ofNat 16 b1.toNat := Fin.ext (Nat.mod_eq_of_lt good).symm
    rw [decodeRecord_of_number (bs := [b0, b1, b2, b3, b4, b5, b6]) good, word]
    simp only [rosterSize_eq, byteAt_cons_succ, byteAt_cons_zero, number, good, true_and]
    rfl

/-- The tests read the first seven bytes alone. -/
theorem decodeRecord_append {record : List Byte} (len : record.length = 7) (rest : List Byte) :
    decodeRecord (record ++ rest) = decodeRecord record := by
  match record, len with
  | [_, _, _, _, _, _, _], _ => rfl

/-! ## A stored record (R180) -/

/-- A stored record's check is the word behind its seven bytes. -/
theorem checkMet_append {record : List Byte} (len : record.length = 7) (check : List Byte) :
    checkMet (record ++ check) 7 = (word2At check 0 == (crcOf (bitsOfBytes record)).toNat) := by
  rw [checkMet, ← len, List.take_left, word2At_append_right]

theorem checkRecord_append {record : List Byte} (len : record.length = 7) (check : List Byte) :
    checkRecord (record ++ check) =
      if word2At check 0 = (crcOf (bitsOfBytes record)).toNat then decodeRecord record else none := by
  simp only [checkRecord, checkMet_append len, decodeRecord_append len, beq_iff_eq]

/-- A record that fails a test or its check yields no values, whatever the read corrects. -/
theorem record_of_bad {record check : List Byte} (len : record.length = 7)
    (bad : decodeRecord record = none ∨ word2At check 0 ≠ (crcOf (bitsOfBytes record)).toNat) (data : List Byte)
    (errors : Nat) : (FlashCell.written (record ++ check) data).record errors = none := by
  have rejected : checkRecord (record ++ check) = none := by
    rw [checkRecord_append len]
    obtain fails | unmet := bad
    · rw [fails, ite_self]
    · exact if_neg unmet
  rw [FlashCell.record, rejected, ite_self]

/-! ## CONFIGURE (R178) -/

/-- UNCONFIGURED and CONFIG_FAULT take CONFIGURE, and a ready port runs its tests there. -/
theorem exec_configure {record : List Byte} {s : State} (len : record.length = 7) (ready : s.hostReady)
    (takes : s.ctl.state = .unconfigured ∨ s.ctl.state = .configFault) :
    exec (.configure record) s = .next ((s.beginCommand codeConfigure record).writeRecord record) := by
  have accepted : acceptConfigure s.ctl.state = true := by
    obtain unconfigured | fault := takes
    · rw [unconfigured]; rfl
    · rw [fault]; rfl
  exact congrArg Host.Outcome.next ((if_pos len).trans (command_of_ready ready accepted codeConfigure _ _))

/-- With no record operation running, a record that fails a test is answered BAD_ARG. -/
theorem writeRecord_of_bad {s : State} {record : List Byte} (idle : s.recordBusy = false)
    (bad : decodeRecord record = none) : s.writeRecord record = s.respond codeConfigure .badArg [] := by
  simp [State.writeRecord, idle, bad]

theorem beginCommand_recordBusy {s : State} (closed : s.port.selected = false) (code : Byte) (args : List Byte) :
    (s.beginCommand code args).recordBusy = s.recordBusy := by
  rw [beginCommand_of_closed closed]
  rfl

/-- CONFIGURE with a record that fails a test is answered BAD_ARG, and nothing else changes. -/
theorem exec_configure_of_bad {record : List Byte} {s : State} (len : record.length = 7) (ready : s.hostReady)
    (idle : s.recordBusy = false) (takes : s.ctl.state = .unconfigured ∨ s.ctl.state = .configFault)
    (bad : decodeRecord record = none) :
    exec (.configure record) s = .next (s.answered codeConfigure record .badArg []) := by
  rw [exec_configure len ready takes]
  obtain ⟨-, -, closed⟩ := ready
  rw [writeRecord_of_bad ((beginCommand_recordBusy closed _ _).trans idle) bad, respond_beginCommand closed]

/-! ## The configuration read (R152) -/

/-- The configuration read ends: the clock moves to the due moment, and the newest record is judged. -/
theorem exec_configurationReadEnd {s : State} {started : Nat} (resetHigh : s.resetLow = false)
    (notStopping : s.ctl.stopping = false) (running : s.array.running = some ⟨.configRead, started⟩) (errors : Nat) :
    exec (.configurationReadEnd errors) s =
      .next ((s.reach (started + us 50)).endOperation.configurationRead errors) := by
  have awake : (s.reach (started + us 50)).endOperation.ctl.stopping = false := notStopping
  simp only [exec, execConfigurationReadEnd, running, resetHigh, awake, Bool.false_eq_true, if_false]

theorem configurationRead_of_bad {s : State} {cell : FlashCell} {errors : Nat}
    (newest : s.array.flash.newestRecord = some cell) (bad : cell.record errors = none) :
    s.configurationRead errors = s.enter .configFault := by
  simp only [State.configurationRead, newest, bad]

/-- A start whose newest record yields no values ends in CONFIG_FAULT, with the configuration as it was. -/
theorem exec_configurationReadEnd_of_bad {s : State} {started errors : Nat} {cell : FlashCell}
    (resetHigh : s.resetLow = false) (notStopping : s.ctl.stopping = false)
    (running : s.array.running = some ⟨.configRead, started⟩) (newest : s.array.flash.newestRecord = some cell)
    (bad : cell.record errors = none) :
    ∃ t, exec (.configurationReadEnd errors) s = .next t ∧ t.ctl.state = .configFault ∧ t.ctl.config = s.ctl.config := by
  have kept : (s.reach (started + us 50)).endOperation.array.flash.newestRecord = some cell := newest
  refine ⟨_, exec_configurationReadEnd resetHigh notStopping running errors, ?_⟩
  rw [configurationRead_of_bad kept bad]
  exact ⟨by simp [State.enter], by simp⟩

/-- Settles O16: the tests byte by byte, and the two places that refuse a record by them, CONFIGURE with BAD_ARG and a
start with CONFIG_FAULT. -/
theorem recordTestsReadTheBytes : Obligations.RecordTestsReadTheBytes :=
  ⟨decodeRecord_bytes,
    fun _ _ len ready idle takes bad => exec_configure_of_bad len ready idle takes bad,
    fun _ _ data errors _ _ len _ resetHigh notStopping running newest bad =>
      exec_configurationReadEnd_of_bad resetHigh notStopping running newest (record_of_bad len bad data errors)⟩

end Sys2Proof.RecordProofs

/-! PROOFS. The queue of waiting commands: a step takes its front (notes/assumptions/13.md), and no meaning touches the
rest. Every meaning answers a next state, an operation under guards that leaves the state as it is where they fail
(notes/assumptions/7.md); so what is to be known is that each operation keeps the queue. Laws/ says so for most of them,
and the sections on the configuration read and on a valid frame for the others. -/

namespace Sys2Proof.QueueProofs

open Sys2Proof.Machine

/-! ## A step -/

theorem step_of_cons {c : Instr} {rest : List Instr} {s : State} (front : s.pending = c :: rest) :
    step s = exec c { s with pending := rest } := by
  rw [step, front]

theorem step_of_empty {s : State} (empty : s.pending = []) : step s = .next { s with now := s.now + 1 } := by
  simp only [step, empty, State.tick]

/-- Settles O1: the two cases of the queue. -/
theorem stepTakesTheFrontCommand : Obligations.StepTakesTheFrontCommand :=
  ⟨fun _ _ _ front => step_of_cons front, fun _ empty => step_of_empty empty⟩

/-! ## The configuration read (R152) -/

theorem designate_pending (s : State) : s.designate.pending = s.pending := by
  unfold State.designate
  generalize stations = l
  induction l generalizing s with
  | nil => rfl
  | cons o l ih => exact (ih _).trans (State.setOrg_frame _ _ _).1

theorem takeRecord_pending (s : State) (c : ConfigRecord) : (s.takeRecord c).pending = s.pending := by
  simp [State.takeRecord, designate_pending]

theorem configurationRead_pending (s : State) (errors : Nat) : (s.configurationRead errors).pending = s.pending := by
  unfold State.configurationRead
  split
  case h_1 => simp
  case h_2 cell _ =>
    split
    case h_1 record _ => exact takeRecord_pending s record
    case h_2 => simp

/-! ## A valid frame (R28 to R31, R65) -/

/-- Each answer places at most one REPAIR, and the rest follow from the state it leaves. -/
theorem answerKeys_pending (o : Station) (gap n : Nat) (s : State) (q : Nat) :
    (s.answerKeys o gap n q).pending = s.pending := by
  induction n generalizing s q with
  | zero => rfl
  | succ n ih =>
    unfold State.answerKeys
    split
    case isTrue => rfl
    case isFalse =>
      split
      case h_1 => simp [apply_ite State.pending, ih]
      case h_2 | h_3 | h_4 => exact ih s _

theorem takeWant_pending (s : State) (o : Station) (first count gap : Nat) :
    (s.takeWant o first count gap).pending = s.pending := by
  simp [State.takeWant, apply_ite State.pending, answerKeys_pending]

theorem consume_pending (s : State) (m : Message) (gap : Nat) : (s.consume m gap).pending = s.pending := by
  cases m with
  | page p k payload => exact (State.takePage_frame s k payload).1
  | repair p k payload => exact (State.takeRepair_frame s k payload).1
  | want p o first count => exact takeWant_pending s o first count gap
  | beacon => rfl

/-- A frame other than a beacon: an EXCLUDED peer's is noted alone, another's is consumed. -/
theorem heard_pending (s : State) (p : Station) (m : Message) (gap : Nat) :
    (if (s.peer p).state = .excluded then s.heardExcluded p else (s.heardFrom p).consume m gap).pending = s.pending := by
  simp [apply_ite State.pending, consume_pending]

theorem takeFromPeer_pending (s : State) (m : Message) (gap : Nat) : (s.takeFromPeer m gap).pending = s.pending := by
  cases m with
  | beacon p factor roster b => simp [State.takeFromPeer, apply_ite State.pending]
  | page p => exact heard_pending s p _ gap
  | repair p => exact heard_pending s p _ gap
  | want p => exact heard_pending s p _ gap

theorem takeFrame_pending (s : State) (m : Message) (gap : Nat) : (s.takeFrame m gap).pending = s.pending := by
  simp [State.takeFrame, apply_ite State.pending, takeFromPeer_pending]

/-- A frame that ends is taken, or refused with one counter raised. -/
theorem endFrame_pending (s : State) (gap : Nat) : (s.endFrame gap).pending = s.pending := by
  unfold State.endFrame
  dsimp only
  split
  case isTrue => simp
  case isFalse =>
    split
    case h_1 m _ => simp [takeFrame_pending]
    case h_2 | h_3 | h_4 => simp

/-! ## A command of the port (R165 to R167) -/

/-- What the port does before a command's own tests keeps the queue, so the command does where its tests do. -/
theorem command_pending {body : State → State} (kept : ∀ s, (body s).pending = s.pending) (s : State) (code : Byte)
    (args : List Byte) (accepts : StationState → Bool) : (s.command code args accepts body).pending = s.pending := by
  simp [State.command, apply_ite State.pending, kept]

/-! ## The meanings -/

/-- The command answers a next state, with the queue as it was. -/
def AnswersKeepingQueue (c : Instr) : Prop := ∀ s : State, ∃ t, exec c s = .next t ∧ t.pending = s.pending


/-- A command of the port answers so where its own tests keep the queue. -/
theorem answersKeepingQueue_of_command {c : Instr} {code : Byte} {args : List Byte} {accepts : StationState → Bool}
    {body : State → State} (meaning : ∀ s, exec c s = .next (s.command code args accepts body))
    (kept : ∀ s, (body s).pending = s.pending) : AnswersKeepingQueue c :=
  fun s => ⟨_, meaning s, command_pending kept s code args accepts⟩

theorem notice_answers : AnswersKeepingQueue .notice :=
  answersKeepingQueue_of_command (fun _ => rfl) fun s => by cases h : s.port.notices <;> rfl

theorem peer_answers (n : Byte) : AnswersKeepingQueue (.peer n) :=
  answersKeepingQueue_of_command (fun _ => rfl) fun s => by cases h : station? n.toNat <;> rfl

theorem origin_answers (n : Byte) : AnswersKeepingQueue (.origin n) :=
  answersKeepingQueue_of_command (fun _ => rfl) fun s => by cases h : station? n.toNat <;> rfl

theorem take_answers : AnswersKeepingQueue .take :=
  answersKeepingQueue_of_command (fun _ => rfl) fun s => by split <;> rfl

/-- START_MOMENT: with an offer the frame is begun, or the fall that came before it is noted. -/
theorem startMoment_answers (fallen : Nat) : AnswersKeepingQueue (.startMoment fallen) := by
  intro s
  refine ⟨_, rfl, ?_⟩
  split
  case isFalse => rfl
  case isTrue =>
    dsimp only
    split
    case h_1 => simp [apply_ite State.pending]
    case h_2 => rfl

/-- DRIVE_NEXT_SYMBOL: the next bit is driven, or after the last one the line is released. -/
theorem driveNextSymbol_answers : AnswersKeepingQueue .driveNextSymbol := by
  intro s
  refine ⟨_, rfl, ?_⟩
  split
  case h_2 => rfl
  case h_1 x _ =>
    cases bits : x.rest with
    | cons b rest => simp [apply_ite State.pending]
    | nil => simp [apply_ite State.pending]

/-- FETCH_DEADLINE: only a fetch with a deadline expires. -/
theorem fetchDeadline_answers : AnswersKeepingQueue .fetchDeadline := by
  intro s
  refine ⟨_, rfl, ?_⟩
  split
  case h_2 => rfl
  case h_1 f _ =>
    cases due : f.deadline with
    | some t => simp [apply_ite State.pending]
    | none => rfl

/-- Settles O2, by cases on the command: a command of the port keeps the queue where its tests do, and any other is an
operation that keeps it, under conditions on the state and for many commands on what the state has under way. -/
theorem everyCommandAnswersANextState : Obligations.EveryCommandAnswersANextState := by
  intro c
  change AnswersKeepingQueue c
  cases c
  case status => exact answersKeepingQueue_of_command (fun _ => rfl) fun _ => rfl
  case notice => exact notice_answers
  case counts => exact answersKeepingQueue_of_command (fun _ => rfl) fun _ => rfl
  case peer n => exact peer_answers n
  case origin n => exact origin_answers n
  case publish => exact answersKeepingQueue_of_command (fun _ => rfl) fun s => (s.publish_frame _ _).1
  case read => exact answersKeepingQueue_of_command (fun _ => rfl) fun s => (s.readPage_frame _ _).1
  case take => exact take_answers
  case retire => exact answersKeepingQueue_of_command (fun _ => rfl) fun s => (s.retireFloor_frame _).1
  case restart => exact answersKeepingQueue_of_command (fun _ => rfl) fun _ => rfl
  case badCmd | configure => exact fun _ => ⟨_, rfl, by simp [apply_ite State.pending, command_pending]⟩
  case startMoment fallen => exact startMoment_answers fallen
  case driveNextSymbol => exact driveNextSymbol_answers
  case fetchDeadline => exact fetchDeadline_answers
  -- An operation under conditions alone.
  case powerOn | resetLow | resetRise | stoppingEnd | selectFallCmdDiscard | selectRise | frameStart | symbolError
      | strayLow | recoveryPeriodEnd | frameEndGap | lineBreak | lineStuck | lineStuckClear | ackPulseEnd | breakEnd
      | listeningEnd | joinLimit =>
    exact fun _ => ⟨_, rfl, by simp [apply_ite State.pending, endFrame_pending]⟩
  -- The end of the array operation that runs.
  case configurationReadEnd | configurationWriteEnd | scanHeaderReadEnd | scanMarkReadEnd | pageReadEnd | pageProgramEnd
      | tagProgramEnd | eraseEnd =>
    exact fun _ => ⟨_, rfl, by split <;> simp [apply_ite State.pending, configurationRead_pending]⟩
  -- A frame, an ack window, a response, a timer or a want that there has to be.
  case responseClockedOut | dataBit | arbitrationLoss | collision | sentToEnd | ackPulse | ackSlotSampling | ackWindowEnd
      | earliestStartPasses | silenceTimeout | beaconTimerExpiry | wantDeadline | stalledReaskDue =>
    exact fun _ => ⟨_, rfl, by split <;> simp [apply_ite State.pending]⟩

end Sys2Proof.QueueProofs
